-- ==== Sys2Proof/Word.lean ====
section
/-! DEFINITION. The byte and the 16-bit word of EUI-CORE (spec/00_scope.md R7: bits are numbered from 0
at the least significant bit, every number is unsigned, a byte string is written in order of arrival). -/

namespace Sys2Proof

/-- A byte: 8 bits (R7). -/
abbrev Byte := BitVec 8

/-- A 16-bit word: the CRC register and the checksum (R160, R175). -/
abbrev Word16 := BitVec 16

/-- A byte string, in order of increasing index, which is the order of arrival on the wire (R7, R51). -/
abbrev Bytes := List Byte

end Sys2Proof
end

