-- ==== Sys2Proof/Config.lean ====
section
/-! DEFINITION. The configuration of an EUI-CORE instance (spec/00_scope.md R6), the constants the source
fixes (R5), and the values the spec leaves free (spec/93_implementation_defined.md U4, U6), which have no
body: no proof can see what they are. -/

namespace Sys2Proof

/-- The four parameters of R6. They are fixed at NEW and no operation but NEW changes them.
R181: `CAP >= 5` is part of the configuration's type, so no run starts from a smaller buffer (U12). -/
structure Config where
  /-- `CAP`: capacity in bytes of the accumulation buffer BUF (R6, D11). -/
  cap : Nat
  /-- `CNT_W`: width in bits of the two packet counters (R6, D10). -/
  cntW : Nat
  /-- `FF_BLOCK_EXCEPTION`: an expired code byte `0xFF` carries no implied zero (R6, D1). -/
  ffBlockException : Bool
  /-- `REJECT_UNKNOWN_TYPE`: VALIDATE fails on the type codes 13 to 15 (R6, D8). -/
  rejectUnknownType : Bool
  /-- R6: `CAP >= 5` (`BASE_PACKET_SIZE`). -/
  cap_ge : 5 ≤ cap
  /-- R6: `CNT_W >= 1`. -/
  cntW_pos : 1 ≤ cntW
  deriving DecidableEq, Repr

/-- The defaults of R6. `CAP` has no default in the spec: 1043 "holds every span the FSM can store"
(DESIGN CHOICE, log entry 1). -/
def Config.default : Config where
  cap := 1043
  cntW := 32
  ffBlockException := false
  rejectUnknownType := false
  cap_ge := by decide
  cntW_pos := by decide

/-- `DELIM` (R5, R100): the frame delimiter. -/
abbrev delimiter : Byte := 0x00#8

/-- `CRC_POLY` (R5, R160). -/
abbrev crcPoly : Word16 := 0x1021#16

/-- `CRC_INIT` (R5, R160). -/
abbrev crcInit : Word16 := 0xFFFF#16

/-- FREE VALUE (U6, log entry 3): what a byte of BUF reads as that no FEED has written since the last NEW.
The first argument counts the NEWs, the second is the address. -/
opaque Config.uninitialised : Nat → Nat → Byte

/-- FREE VALUE (U6, R58, R291, log entry 2): what the host's read port shows where the spec promises nothing. The first
argument is the whole state of the read, so no two reads in different states are said to agree; the second is `rd_addr`. -/
opaque Config.unpromisedRead {σ : Type} : σ → Nat → Byte

/-- FREE VALUE (U4, log entry 4): what a failed DECODE_IN_PLACE leaves in the caller's buffer.
The first argument counts such failures, the second is the index in the buffer. -/
opaque Config.afterFailedDecode : Nat → Nat → Byte

end Sys2Proof
end

