-- ==== Sys2Proof/Syntax.lean ====
section
/-! DEFINITION. The syntax of EUI-CORE: the enumerations of the spec and `Instr`, one constructor per row of
spec/opcode_table.json. Only NEW, DECODE, RESET, COUNT and INVALID_COUNT are operations of the hardware block (R70);
the other rows are the pure functions and micro-operations those are made of, the reverse path, and codes. -/

namespace Sys2Proof

/-- The ten values of the sequencing register `state`, in frame order (R21). -/
inductive FsmState
  | frameOffset | headerB0 | headerB1 | headerB2 | msgId | offsetB0 | offsetB1 | payload | crcB0 | crcB1
  deriving DecidableEq, Repr

/-- A Message Type (R79, R137): thirteen named types and `Unknown(n)` carrying the raw code. -/
inductive MsgType
  | callback | custom | offsetMetadata | byte | char | int8 | uint8 | int16 | uint16 | int32 | uint32 | float32 | float64
  /-- R138: the source lets `n` be any number outside 0 to 12, and its type can hold those too. -/
  | unknown (n : Nat)
  deriving DecidableEq, Repr

/-- The three kinds of outcome on the port `out_kind` (R9, R35). -/
inductive OutKind
  | none | packet | error
  deriving DecidableEq, Repr

/-- The fields of a packet (R73, R54). `id_length` and `data_length` are the lengths of the two byte strings. -/
structure PacketFields where
  typeCode : BitVec 4
  internal : Bool
  offset : Bool
  response : Bool
  acknum : BitVec 3
  msgId : Bytes
  payload : Bytes
  checksum : Word16
  deriving DecidableEq, Repr

/-- The arguments of PKT (R231), in the spec's order. -/
structure PktArgs where
  id : Bytes
  payload : Bytes
  type : MsgType
  internal : Bool
  offset : Bool
  response : Bool
  acknum : Nat
  deriving DecidableEq, Repr

/-- Where a word of the encoding tables stands; the same bits mean different things in different formats
(R70 to R84; log entry 10). -/
inductive Format
  /-- `{rst, op_valid, op}` in bits 2 to 0 of byte 0 and `in_byte` in byte 1 (R35). -/
  | port
  /-- `{state[3:0], in_byte[7:0]}`: byte 0 is `in_byte`, the low nibble of byte 1 is the state code (R84). -/
  | dispatch
  /-- Bytes on the wire (R72). -/
  | wire
  /-- The bytes of a packet (R73, R54). -/
  | packet
  | headerB0
  | headerB1
  | headerB2
  | checksumField
  /-- A 4-bit type code (R79). -/
  | typeCode
  /-- A 4-bit state code (R21). -/
  | stateCode
  /-- A 2-bit `out_kind` code (R35). -/
  | outcomeCode
  /-- `out_err` in bits 3:0 and `out_info` in bits 7:4 (R35, R240). -/
  | errorCode
  deriving DecidableEq, Repr

/-- Why the decoder rejects a word, by name. -/
inductive DecodeError
  /-- The word has not the number of bytes, or sets bits beyond the width, that its format has. -/
  | badWidth (f : Format)
  /-- A code the format never produces: state codes 10 to 15, `out_kind` 3, `out_err` 0 and 11 to 15 (R21, R35, R240). -/
  | reservedCode (f : Format)
  deriving DecidableEq, Repr

/-- The opcode table: one constructor per row. -/
inductive Instr
  -- port (R35, R70)
  /-- NEW (R181): `none` is the hard reset `rst` of the port binding (R35), which keeps the elaboration parameters;
  `some c` constructs an instance with configuration `c`. -/
  | new (c : Option Config)
  /-- DECODE of one wire byte (R180). -/
  | decode (b : Byte)
  /-- RESET (R182). -/
  | reset
  /-- IDLE: a cycle of the port binding in which no operation is presented (R35). -/
  | idle
  -- read-port
  /-- COUNT (R200). -/
  | count
  /-- INVALID_COUNT (R201). -/
  | invalidCount
  -- dispatch: DECODE as selected by the state and the byte (R84)
  /-- DECODE of the delimiter, in any state (R189). -/
  | decodeDelim
  /-- DECODE of a non-zero byte in state FrameOffset (R183). -/
  | decodeFrameOffset (b : Byte)
  /-- DECODE of a non-zero byte in state HeaderB0 (R184). -/
  | decodeHeaderB0 (b : Byte)
  /-- DECODE of a non-zero byte in state HeaderB1 (R185). -/
  | decodeHeaderB1 (b : Byte)
  /-- DECODE of a non-zero byte in state HeaderB2 (R186). -/
  | decodeHeaderB2 (b : Byte)
  /-- DECODE of a non-zero byte in state MsgId (R187, R188). -/
  | decodeMsgId (b : Byte)
  /-- DECODE of a non-zero byte in state OffsetB0 (R190). -/
  | decodeOffsetB0 (b : Byte)
  /-- DECODE of a non-zero byte in state OffsetB1 (R191). -/
  | decodeOffsetB1 (b : Byte)
  /-- DECODE of a non-zero byte in state Payload (R192). -/
  | decodePayload (b : Byte)
  /-- DECODE of a non-zero byte in state CrcB0 (R193). -/
  | decodeCrcB0 (b : Byte)
  /-- DECODE of a non-zero byte in state CrcB1 (R194, R195). -/
  | decodeCrcB1 (b : Byte)
  /-- DECODE of a byte that UNSTUFF consumes as a code byte after an `0xFF` block (R197, R112). -/
  | decodeCodeAfterFf (b : Byte)
  /-- DECODE in a storing state with the buffer full (R196). -/
  | decodeFull (b : Byte)
  -- internal
  /-- FEED of one reconstructed byte (R196). -/
  | feed (x : Byte)
  /-- RESET_FSM (R199). -/
  | resetFsm
  /-- UNSTUFF, the default variant (R111). -/
  | unstuff (b : Byte)
  /-- UNSTUFF, the variant under FF_BLOCK_EXCEPTION (R112). -/
  | unstuffFf (b : Byte)
  -- wire
  /-- A frame arriving on the wire: a body and one delimiter (R72). -/
  | frame (body : Bytes)
  /-- A delimiter arriving on the wire (R71, R100). -/
  | delim
  -- packet and header layout
  /-- A packet by its fields (R73, R54). -/
  | packet (f : PacketFields)
  /-- Header byte 0: `data_length[7:0]` (R74). -/
  | headerB0 (dlLow : BitVec 8)
  /-- Header byte 1: `{offset, internal, type[3:0], data_length[9:8]}` (R75). -/
  | headerB1 (offset : Bool) (internal : Bool) (typeCode : BitVec 4) (dlHigh : BitVec 2)
  /-- Header byte 2: `{acknum[2:0], response, id_length[3:0]}` (R76). -/
  | headerB2 (acknum : BitVec 3) (response : Bool) (idLength : BitVec 4)
  /-- The two checksum bytes, low byte first (R78, R50). -/
  | checksumField (c : Word16)
  -- type codes (R79)
  /-- Type code 0 (R79). -/
  | typeCallback
  /-- Type code 1 (R79). -/
  | typeCustom
  /-- Type code 2 (R79). -/
  | typeOffsetMetadata
  /-- Type code 3 (R79). -/
  | typeByte
  /-- Type code 4 (R79). -/
  | typeChar
  /-- Type code 5 (R79). -/
  | typeInt8
  /-- Type code 6 (R79). -/
  | typeUInt8
  /-- Type code 7 (R79). -/
  | typeInt16
  /-- Type code 8 (R79). -/
  | typeUInt16
  /-- Type code 9 (R79). -/
  | typeInt32
  /-- Type code 10 (R79). -/
  | typeUInt32
  /-- Type code 11 (R79). -/
  | typeFloat32
  /-- Type code 12 (R79). -/
  | typeFloat64
  /-- Type code 13, reserved: carried as Unknown (R79, R80). -/
  | typeUnknown13
  /-- Type code 14, reserved: carried as Unknown (R79, R80). -/
  | typeUnknown14
  /-- Type code 15, reserved: carried as Unknown (R79, R80). -/
  | typeUnknown15
  -- state codes (R21)
  /-- State code 0 (R21). -/
  | stateFrameOffset
  /-- State code 1 (R21). -/
  | stateHeaderB0
  /-- State code 2 (R21). -/
  | stateHeaderB1
  /-- State code 3 (R21). -/
  | stateHeaderB2
  /-- State code 4 (R21). -/
  | stateMsgId
  /-- State code 5 (R21). -/
  | stateOffsetB0
  /-- State code 6 (R21). -/
  | stateOffsetB1
  /-- State code 7 (R21). -/
  | statePayload
  /-- State code 8 (R21). -/
  | stateCrcB0
  /-- State code 9 (R21). -/
  | stateCrcB1
  -- outcome codes (R9, R35)
  /-- `out_kind` code 0 (R35). -/
  | outNone
  /-- `out_kind` code 1 (R35). -/
  | outPacket
  /-- `out_kind` code 2 (R35). -/
  | outError
  -- error codes (R240)
  /-- `out_err` code 1 (R240, R241). -/
  | errMissingHeader
  /-- `out_err` code 2 (R240, R242). -/
  | errMissingChecksum
  /-- `out_err` code 3 (R240, R243). -/
  | errIncompletePayload
  /-- `out_err` code 4 (R240, R244). -/
  | errInvalidDataLength
  /-- `out_err` code 5 (R240, R245). -/
  | errInvalidMessageIdLength
  /-- `out_err` code 6 (R240, R246). -/
  | errInvalidMessageId
  /-- `out_err` code 7, with the type code on `out_info` (R240, R247). -/
  | errUnknownMessageType (info : BitVec 4)
  /-- `out_err` code 8 (R240, R248). -/
  | errInvalidChecksum
  /-- `out_err` code 9 (R240, R249). -/
  | errFramingDecodeError
  /-- `out_err` code 10 (R240, R251). -/
  | errInsufficientBufferSize
  -- functions: validator
  /-- VALIDATE (R165 to R171). -/
  | validate (p : Bytes)
  /-- CRC16, with the optional starting value (R161). -/
  | crc16 (p : Bytes) (c0 : Option Word16)
  /-- COMPUTE_CHECKSUM (R164). -/
  | computeChecksum (p : Bytes)
  -- functions: header parser
  /-- GET_DATA_LENGTH (R130). -/
  | getDataLength (p : Bytes)
  /-- GET_OFFSET (R131). -/
  | getOffset (p : Bytes)
  /-- GET_TYPE (R132). -/
  | getType (p : Bytes)
  /-- GET_INTERNAL (R133). -/
  | getInternal (p : Bytes)
  /-- GET_ID_LENGTH (R134). -/
  | getIdLength (p : Bytes)
  /-- GET_RESPONSE (R135). -/
  | getResponse (p : Bytes)
  /-- GET_ACKNUM (R136). -/
  | getAcknum (p : Bytes)
  /-- TYPE_FROM_CODE (R137). -/
  | typeFromCode (c : BitVec 4)
  /-- TYPE_TO_CODE (R138). -/
  | typeToCode (t : MsgType)
  /-- TYPE_SIZE (R139). -/
  | typeSize (t : MsgType)
  /-- TYPE_ARRAY_SIZE (R139). -/
  | typeArraySize (t : MsgType) (n : Nat)
  /-- MSG_ID_NEW (R140). -/
  | msgIdNew (p : Bytes)
  /-- MSG_ID (R141). -/
  | msgId (p : Bytes)
  /-- PAYLOAD (R142). -/
  | payload (p : Bytes)
  /-- CHECKSUM (R143). -/
  | checksum (p : Bytes)
  /-- WIRE_SIZE (R144). -/
  | wireSize (p : Bytes)
  -- functions: framing
  /-- ENCODE_FRAME (R102). -/
  | encodeFrame (p : Bytes)
  /-- MAX_ENCODED_LEN (R104). -/
  | maxEncodedLen (n : Nat)
  /-- DECODE_BUF (R106). -/
  | decodeBuf (e : Bytes)
  /-- DECODE_IN_PLACE (R109). -/
  | decodeInPlace (e : Bytes)
  -- functions: packet builder
  /-- NEW_UNCHECKED (R220). -/
  | newUnchecked (p : Bytes)
  /-- SET_DATA_LENGTH (R221). -/
  | setDataLength (p : Bytes) (v : Word16)
  /-- SET_OFFSET (R222). -/
  | setOffset (p : Bytes) (f : Bool)
  /-- SET_TYPE (R223). -/
  | setType (p : Bytes) (t : MsgType)
  /-- SET_INTERNAL (R224). -/
  | setInternal (p : Bytes) (f : Bool)
  /-- SET_ID_LENGTH (R225). -/
  | setIdLength (p : Bytes) (v : Byte)
  /-- SET_RESPONSE (R226). -/
  | setResponse (p : Bytes) (f : Bool)
  /-- SET_ACKNUM (R227). -/
  | setAcknum (p : Bytes) (v : Nat)
  /-- SET_MSG_ID (R228). -/
  | setMsgId (p : Bytes) (d : Bytes)
  /-- SET_PAYLOAD (R229). -/
  | setPayload (p : Bytes) (d : Bytes)
  /-- SET_CHECKSUM (R230). -/
  | setChecksum (p : Bytes) (c : Word16)
  /-- PKT, the recipe (R231). -/
  | pkt (k : PktArgs)
  -- pseudo-operations (R83)
  /-- FEED_STREAM: one DECODE per byte (R83). -/
  | feedStream (bs : Bytes)
  /-- FRAME(p): the bytes of ENCODE_FRAME (R83). -/
  | frameOf (p : Bytes)
  deriving DecidableEq, Repr

end Sys2Proof
end

