-- ==== Sys2Proof/Machine/Operands.lean ====
section
/-! DEFINITION. Operand forms: what is read from a byte string (a packet view, R130 to R145), the Message Type
codes (R79, R137, R138), the Message Identity (R140), and the blocks of a frame body (R72, R101).
Pure functions; nothing here knows the machine's state. -/

namespace Sys2Proof.Machine

/-! ### Bytes and slices -/

/-- The byte at index `i` of a view. Callers check the length first (U5), so the default is never used. -/
def byteAt (p : Bytes) (i : Nat) : Byte := p.getD i 0#8

/-- `{hi, lo}`: the two-byte little-endian number (R8 MemRead with n = 2, R50). -/
def word16 (lo hi : Byte) : Word16 := hi ++ lo

/-- The low byte of a 16-bit number (R8 MemWrite, R50). -/
def lowByte (c : Word16) : Byte := c.extractLsb' 0 8

/-- The high byte of a 16-bit number (R8 MemWrite, R50). -/
def highByte (c : Word16) : Byte := c.extractLsb' 8 8

/-- `s[i..i+n-1]` (R7). -/
def slice (p : Bytes) (i n : Nat) : Bytes := (p.drop i).take n

/-- `p` with the bytes from index `i` on replaced by `d` (R228, R229). -/
def splice (p : Bytes) (i : Nat) (d : Bytes) : Bytes := p.take i ++ d ++ p.drop (i + d.length)

/-! ### The three header bytes (R74 to R77) -/

/-- `data_length` from header bytes 0 and 1 (R77). -/
def dataLengthOf (b0 b1 : Byte) : BitVec 10 := b1.extractLsb' 0 2 ++ b0

/-- The `offset` flag of header byte 1: bit 7 (R75). -/
def offsetOf (b1 : Byte) : Bool := b1.getLsbD 7

/-- The `internal` flag of header byte 1: bit 6 (R75). -/
def internalOf (b1 : Byte) : Bool := b1.getLsbD 6

/-- The type code of header byte 1: bits 5:2 (R75). -/
def typeCodeOf (b1 : Byte) : BitVec 4 := b1.extractLsb' 2 4

/-- `id_length` of header byte 2: bits 3:0 (R76). -/
def idLengthOf (b2 : Byte) : BitVec 4 := b2.extractLsb' 0 4

/-- The `response` flag of header byte 2: bit 4 (R76). -/
def responseOf (b2 : Byte) : Bool := b2.getLsbD 4

/-- `acknum` of header byte 2: bits 7:5 (R76). -/
def acknumOf (b2 : Byte) : BitVec 3 := b2.extractLsb' 5 3

/-- Header byte 1 from its fields (R75). -/
def headerByte1 (offset internal : Bool) (typeCode : BitVec 4) (dlHigh : BitVec 2) : Byte :=
  BitVec.ofBool offset ++ BitVec.ofBool internal ++ typeCode ++ dlHigh

/-- Header byte 2 from its fields (R76). -/
def headerByte2 (acknum : BitVec 3) (response : Bool) (idLength : BitVec 4) : Byte :=
  acknum ++ BitVec.ofBool response ++ idLength

/-! ### Fields of a view (R130 to R136) and the places computed from them (R54, R78, R144) -/

def viewDataLength (p : Bytes) : BitVec 10 := dataLengthOf (byteAt p 0) (byteAt p 1)
def viewOffset (p : Bytes) : Bool := offsetOf (byteAt p 1)
def viewTypeCode (p : Bytes) : BitVec 4 := typeCodeOf (byteAt p 1)
def viewInternal (p : Bytes) : Bool := internalOf (byteAt p 1)
def viewIdLength (p : Bytes) : BitVec 4 := idLengthOf (byteAt p 2)
def viewResponse (p : Bytes) : Bool := responseOf (byteAt p 2)
def viewAcknum (p : Bytes) : BitVec 3 := acknumOf (byteAt p 2)

/-- `k = 3 + id_length + data_length`: where the checksum starts (R78). -/
def checksumIndex (p : Bytes) : Nat := 3 + (viewIdLength p).toNat + (viewDataLength p).toNat

/-- The wire size `k + 2` (R144). -/
def viewWireSize (p : Bytes) : Nat := checksumIndex p + 2

/-- The stored checksum (R78, R143). -/
def viewChecksum (p : Bytes) : Word16 := word16 (byteAt p (checksumIndex p)) (byteAt p (checksumIndex p + 1))

/-- The id bytes (R54). -/
def viewMsgId (p : Bytes) : Bytes := slice p 3 (viewIdLength p).toNat

/-- The payload bytes (R54, R142): right after the id whatever the offset flag says. -/
def viewPayload (p : Bytes) : Bytes := slice p (3 + (viewIdLength p).toNat) (viewDataLength p).toNat

/-! ### Message Type (R79, R137, R138, R139) -/

/-- TYPE_FROM_CODE (R137, the table of R79). -/
def msgTypeOfCode (c : BitVec 4) : MsgType :=
  match c.toNat with
  | 0 => .callback
  | 1 => .custom
  | 2 => .offsetMetadata
  | 3 => .byte
  | 4 => .char
  | 5 => .int8
  | 6 => .uint8
  | 7 => .int16
  | 8 => .uint16
  | 9 => .int32
  | 10 => .uint32
  | 11 => .float32
  | 12 => .float64
  | n => .unknown n

/-- TYPE_TO_CODE (R138): the raw code of an `Unknown` as a number (U7). -/
def msgTypeCode : MsgType → Nat
  | .callback => 0
  | .custom => 1
  | .offsetMetadata => 2
  | .byte => 3
  | .char => 4
  | .int8 => 5
  | .uint8 => 6
  | .int16 => 7
  | .uint16 => 8
  | .int32 => 9
  | .uint32 => 10
  | .float32 => 11
  | .float64 => 12
  | .unknown n => n

/-- TYPE_SIZE (R139; the sizes are G3, general knowledge the spec supplies: log entry 15). -/
def msgTypeSize : MsgType → Nat
  | .callback | .custom | .offsetMetadata | .unknown _ => 0
  | .byte | .char | .int8 | .uint8 => 1
  | .int16 | .uint16 => 2
  | .int32 | .uint32 | .float32 => 4
  | .float64 => 8

/-! ### Message Identity (R140) -/

/-- MSG_ID_NEW (R140): `none` is "no identity". -/
def identity? (s : Bytes) : Option Bytes :=
  if s.length = 0 then none
  else if 15 < s.length then none
  else if s.length = 1 ∧ byteAt s 0 = 0#8 then none
  else some s

/-! ### Blocks of a frame body (R72, R101) -/

/-- One block: a code byte `c` and `c - 1` data bytes (R72). -/
structure Block where
  code : Byte
  data : Bytes
  deriving DecidableEq, Repr

/-- Cut a body into blocks, at most `fuel` of them: `none` when a code byte is `0x00`, when a block runs past
the end, or when a `0x00` stands among the data bytes (R101, R106). -/
def cutBlocks : Nat → Bytes → Option (List Block)
  | _, [] => some []
  | 0, _ :: _ => none
  | fuel + 1, c :: rest =>
    if c = 0#8 then none
    else if rest.length < c.toNat - 1 then none
    else if (rest.take (c.toNat - 1)).contains 0#8 then none
    else (cutBlocks fuel (rest.drop (c.toNat - 1))).map fun bs => ⟨c, rest.take (c.toNat - 1)⟩ :: bs

/-- The blocks of a body; each takes at least one byte, so the body's length is fuel enough. -/
def blocks? (e : Bytes) : Option (List Block) := cutBlocks e.length e

/-- R101: a non-empty delimiter-free body whose chain of code bytes lands exactly on its end. -/
def bodyWellFormed (e : Bytes) : Bool := !e.isEmpty && (blocks? e).isSome

end Sys2Proof.Machine
end

