-- ==== Sys2Proof/WellFormed.lean ====
section
/-! DEFINITION. Well-formed instructions: the operand domains the spec states. What lies outside them the spec
gives no meaning (spec/93_implementation_defined.md U1, U2, U5, U7, U16), or is not an instance of the row. -/

namespace Sys2Proof

open Sys2Proof.Machine

/-- A non-zero wire byte (R71, R84): the operand of every DECODE row but DELIM, and of UNSTUFF (R111). -/
def nonZero (b : Byte) : Bool := b != delimiter

/-- R223, U7: a type whose code fits the 4-bit field. -/
def typeFits (t : MsgType) : Bool := msgTypeCode t ≤ 15

/-- The operand domain of each row. -/
def wellFormed : Instr → Bool
  | .decodeFrameOffset b | .decodeHeaderB0 b | .decodeHeaderB1 b | .decodeHeaderB2 b | .decodeMsgId b
  | .decodeOffsetB0 b | .decodeOffsetB1 b | .decodePayload b | .decodeCrcB0 b | .decodeCrcB1 b
  | .decodeCodeAfterFf b | .decodeFull b | .unstuff b | .unstuffFf b => nonZero b
  -- R72, R101
  | .frame body => bodyWellFormed body
  -- R54, R76, R74: 1 to 15 id bytes, at most 1023 payload bytes
  | .packet f => 1 ≤ f.msgId.length && f.msgId.length ≤ 15 && f.payload.length ≤ 1023
  -- R240: "the 4-bit type code, 13 to 15"
  | .errUnknownMessageType info => 13 ≤ info.toNat
  -- U5: the lengths the getters require (R130 to R136, R141 to R144, R164)
  | .getDataLength p | .getOffset p | .getType p | .getInternal p => 2 ≤ p.length
  | .getIdLength p | .getResponse p | .getAcknum p | .wireSize p => 3 ≤ p.length
  | .msgId p => 3 ≤ p.length && ((viewIdLength p).toNat == 0 || 3 + (viewIdLength p).toNat ≤ p.length)
  | .payload p => 3 ≤ p.length && ((viewIdLength p).toNat == 0 || checksumIndex p ≤ p.length)
  | .computeChecksum p => 3 ≤ p.length && checksumIndex p ≤ p.length
  | .checksum p => 3 ≤ p.length && viewWireSize p ≤ p.length
  -- R221, U1
  | .setDataLength p v => 2 ≤ p.length && v.toNat != 1024
  | .setOffset p _ | .setInternal p _ => 2 ≤ p.length
  -- R223, U7
  | .setType p t => 2 ≤ p.length && typeFits t
  | .setIdLength p _ | .setResponse p _ => 3 ≤ p.length
  -- R227, U2
  | .setAcknum p v => 3 ≤ p.length && v ≤ 7
  -- R228, U16
  | .setMsgId p d =>
    (identity? d).isNone || (3 ≤ p.length && d.length == (viewIdLength p).toNat && 3 + d.length ≤ p.length)
  -- R229, U16
  | .setPayload p d =>
    3 ≤ p.length && 1 ≤ (viewIdLength p).toNat && d.length == (viewDataLength p).toNat &&
      3 + (viewIdLength p).toNat + d.length ≤ p.length
  -- R230
  | .setChecksum p _ => 3 ≤ p.length && viewWireSize p ≤ p.length
  -- R231 with U1, U2, U7
  | .pkt k => k.payload.length != 1024 && typeFits k.type && k.acknum ≤ 7
  | .new _ | .decode _ | .reset | .idle | .count | .invalidCount | .decodeDelim | .feed _ | .resetFsm | .delim
  | .headerB0 _ | .headerB1 _ _ _ _ | .headerB2 _ _ _ | .checksumField _
  | .typeCallback | .typeCustom | .typeOffsetMetadata | .typeByte | .typeChar | .typeInt8 | .typeUInt8 | .typeInt16
  | .typeUInt16 | .typeInt32 | .typeUInt32 | .typeFloat32 | .typeFloat64 | .typeUnknown13 | .typeUnknown14
  | .typeUnknown15
  | .stateFrameOffset | .stateHeaderB0 | .stateHeaderB1 | .stateHeaderB2 | .stateMsgId | .stateOffsetB0
  | .stateOffsetB1 | .statePayload | .stateCrcB0 | .stateCrcB1
  | .outNone | .outPacket | .outError
  | .errMissingHeader | .errMissingChecksum | .errIncompletePayload | .errInvalidDataLength
  | .errInvalidMessageIdLength | .errInvalidMessageId | .errInvalidChecksum | .errFramingDecodeError
  | .errInsufficientBufferSize
  | .validate _ | .crc16 _ _ | .typeFromCode _ | .typeToCode _ | .typeSize _ | .typeArraySize _ _ | .msgIdNew _
  | .encodeFrame _ | .maxEncodedLen _ | .decodeBuf _ | .decodeInPlace _ | .newUnchecked _ | .feedStream _
  | .frameOf _ => true

end Sys2Proof
end

