-- ==== Sys2Proof/Decode.lean ====
section
/-! DEFINITION. The decoder, total on any bytes and rejecting by name, one function per format of the encoding
tables (spec/30_encoding.md, spec/10_state.md R21 and R35, spec/60_exceptions.md R240), and after it the encoder.
Only part of the rows have an encoding: R70 "An operation is issued whole; there is no binary instruction word to
decode except through the port binding". -/

namespace Sys2Proof

open Sys2Proof.Machine

/-! ### Codes -/

/-- The register encoding of `state` (R21). -/
def FsmState.code : FsmState → BitVec 4
  | .frameOffset => 0
  | .headerB0 => 1
  | .headerB1 => 2
  | .headerB2 => 3
  | .msgId => 4
  | .offsetB0 => 5
  | .offsetB1 => 6
  | .payload => 7
  | .crcB0 => 8
  | .crcB1 => 9

/-- The codes of the port `out_kind` (R35). -/
def OutKind.code : OutKind → BitVec 2
  | .none => 0
  | .packet => 1
  | .error => 2

/-! ### The decoder -/

/-- The port word `{rst, op_valid, op}` and the operand port `in_byte` (R35; the table's rows 1xx, 010, 011, 00x). -/
def decodePort : Bytes → Except DecodeError Instr
  | [w, b] =>
    if 8 ≤ w.toNat then .error (.badWidth .port)
    else if w.getLsbD 2 then .ok (.new none)
    else if w.getLsbD 1 then (if w.getLsbD 0 then .ok .reset else .ok (.decode b))
    else .ok .idle
  | _ => .error (.badWidth .port)

/-- The DECODE row of a non-zero byte in the state of a code (R84); codes 10 to 15 are never produced (R21). -/
def dispatchRow (code : Nat) (b : Byte) : Except DecodeError Instr :=
  match code with
  | 0 => .ok (.decodeFrameOffset b)
  | 1 => .ok (.decodeHeaderB0 b)
  | 2 => .ok (.decodeHeaderB1 b)
  | 3 => .ok (.decodeHeaderB2 b)
  | 4 => .ok (.decodeMsgId b)
  | 5 => .ok (.decodeOffsetB0 b)
  | 6 => .ok (.decodeOffsetB1 b)
  | 7 => .ok (.decodePayload b)
  | 8 => .ok (.decodeCrcB0 b)
  | 9 => .ok (.decodeCrcB1 b)
  | _ => .error (.reservedCode .dispatch)

/-- The dispatch word `{state[3:0], in_byte[7:0]}`; "the DELIM row has priority" (table, R84). -/
def decodeDispatch : Bytes → Except DecodeError Instr
  | [b, st] =>
    if 16 ≤ st.toNat then .error (.badWidth .dispatch)
    else if b = delimiter then .ok .decodeDelim
    else dispatchRow st.toNat b
  | _ => .error (.badWidth .dispatch)

/-- The wire row that bytes on the wire are: one delimiter, or a frame (R71, R72). -/
def wireRow (bs : Bytes) : Option Instr :=
  if bs = [delimiter] then some .delim
  else if bs.getLast? = some delimiter ∧ bodyWellFormed bs.dropLast then some (.frame bs.dropLast)
  else none

/-- Bytes on the wire: a wire row, or, for any other bytes, one DECODE per byte in order (R83): a malformed body is
decoded byte by byte like any other (R80, R113; log entry 11). -/
def decodeWire (bs : Bytes) : Except DecodeError Instr := .ok ((wireRow bs).getD (.feedStream bs))

/-- The packet that a byte string is, cut by the map of R54: exactly as long as its header says, with an id (R76). -/
def packetRow (p : Bytes) : Option Instr :=
  if p.length < 5 then none
  else if (viewIdLength p).toNat = 0 then none
  else if p.length ≠ viewWireSize p then none
  else some (.packet
    { typeCode := viewTypeCode p, internal := viewInternal p, offset := viewOffset p, response := viewResponse p,
      acknum := viewAcknum p, msgId := viewMsgId p, payload := viewPayload p, checksum := viewChecksum p })

/-- The bytes of a packet; bytes that are no packet are what VALIDATE answers for (R80, R165 to R168; log entry 16). -/
def decodePacket (p : Bytes) : Except DecodeError Instr := .ok ((packetRow p).getD (.validate p))

/-- Header byte 0 (R74). -/
def decodeHeader0 : Bytes → Except DecodeError Instr
  | [b] => .ok (.headerB0 b)
  | _ => .error (.badWidth .headerB0)

/-- Header byte 1 (R75). -/
def decodeHeader1 : Bytes → Except DecodeError Instr
  | [b] => .ok (.headerB1 (offsetOf b) (internalOf b) (typeCodeOf b) (b.extractLsb' 0 2))
  | _ => .error (.badWidth .headerB1)

/-- Header byte 2 (R76). -/
def decodeHeader2 : Bytes → Except DecodeError Instr
  | [b] => .ok (.headerB2 (acknumOf b) (responseOf b) (idLengthOf b))
  | _ => .error (.badWidth .headerB2)

/-- The checksum field (R78). -/
def decodeChecksumField : Bytes → Except DecodeError Instr
  | [lo, hi] => .ok (.checksumField (word16 lo hi))
  | _ => .error (.badWidth .checksumField)

/-- A type code (R79). -/
def decodeTypeCode : Bytes → Except DecodeError Instr
  | [b] =>
    match b.toNat with
    | 0 => .ok .typeCallback
    | 1 => .ok .typeCustom
    | 2 => .ok .typeOffsetMetadata
    | 3 => .ok .typeByte
    | 4 => .ok .typeChar
    | 5 => .ok .typeInt8
    | 6 => .ok .typeUInt8
    | 7 => .ok .typeInt16
    | 8 => .ok .typeUInt16
    | 9 => .ok .typeInt32
    | 10 => .ok .typeUInt32
    | 11 => .ok .typeFloat32
    | 12 => .ok .typeFloat64
    | 13 => .ok .typeUnknown13
    | 14 => .ok .typeUnknown14
    | 15 => .ok .typeUnknown15
    | _ => .error (.badWidth .typeCode)
  | _ => .error (.badWidth .typeCode)

/-- A state code (R21). -/
def decodeStateCode : Bytes → Except DecodeError Instr
  | [b] =>
    match b.toNat with
    | 0 => .ok .stateFrameOffset
    | 1 => .ok .stateHeaderB0
    | 2 => .ok .stateHeaderB1
    | 3 => .ok .stateHeaderB2
    | 4 => .ok .stateMsgId
    | 5 => .ok .stateOffsetB0
    | 6 => .ok .stateOffsetB1
    | 7 => .ok .statePayload
    | 8 => .ok .stateCrcB0
    | 9 => .ok .stateCrcB1
    | n => if n < 16 then .error (.reservedCode .stateCode) else .error (.badWidth .stateCode)
  | _ => .error (.badWidth .stateCode)

/-- An outcome code (R35). -/
def decodeOutcomeCode : Bytes → Except DecodeError Instr
  | [b] =>
    match b.toNat with
    | 0 => .ok .outNone
    | 1 => .ok .outPacket
    | 2 => .ok .outError
    | 3 => .error (.reservedCode .outcomeCode)
    | _ => .error (.badWidth .outcomeCode)
  | _ => .error (.badWidth .outcomeCode)

/-- The error row of an `out_err` code (R240); `out_info` is zero but for UnknownMessageType (R35). -/
def errorRow (code info : Nat) : Except DecodeError Instr :=
  match code, info with
  | 1, 0 => .ok .errMissingHeader
  | 2, 0 => .ok .errMissingChecksum
  | 3, 0 => .ok .errIncompletePayload
  | 4, 0 => .ok .errInvalidDataLength
  | 5, 0 => .ok .errInvalidMessageIdLength
  | 6, 0 => .ok .errInvalidMessageId
  | 7, n => if 13 ≤ n then .ok (.errUnknownMessageType (BitVec.ofNat 4 n)) else .error (.reservedCode .errorCode)
  | 8, 0 => .ok .errInvalidChecksum
  | 9, 0 => .ok .errFramingDecodeError
  | 10, 0 => .ok .errInsufficientBufferSize
  | _, _ => .error (.reservedCode .errorCode)

/-- The ports `out_err` (bits 3:0) and `out_info` (bits 7:4) (R35, R240). -/
def decodeErrorCode : Bytes → Except DecodeError Instr
  | [b] => errorRow (b.extractLsb' 0 4).toNat (b.extractLsb' 4 4).toNat
  | _ => .error (.badWidth .errorCode)

/-- The decoder: the instruction a word of a format stands for, or the reason it stands for none. -/
def decode (f : Format) (bs : Bytes) : Except DecodeError Instr :=
  match f with
  | .port => decodePort bs
  | .dispatch => decodeDispatch bs
  | .wire => decodeWire bs
  | .packet => decodePacket bs
  | .headerB0 => decodeHeader0 bs
  | .headerB1 => decodeHeader1 bs
  | .headerB2 => decodeHeader2 bs
  | .checksumField => decodeChecksumField bs
  | .typeCode => decodeTypeCode bs
  | .stateCode => decodeStateCode bs
  | .outcomeCode => decodeOutcomeCode bs
  | .errorCode => decodeErrorCode bs

/-! ### Table words -/

/-- The `n` bytes of a number, least significant first (R50). -/
def leBytes : Nat → Nat → Bytes
  | 0, _ => []
  | n + 1, w => BitVec.ofNat 8 w :: leBytes n (w / 256)

/-- Which format a bare table word is read in (log entry 10): up to 8 bits a 4-bit type code, up to 16 bits a
dispatch word, longer ones bytes on the wire. -/
def tableWord (nbits w : Nat) : Format × Bytes :=
  if nbits ≤ 8 then (.typeCode, [BitVec.ofNat 8 (w % 16)])
  else if nbits ≤ 16 then (.dispatch, leBytes 2 w)
  else (.wire, leBytes ((nbits + 7) / 8) w)

/-- The instruction the decoder reads from an opcode-table word. -/
def decodeTableWord (nbits w : Nat) : Option Instr :=
  match decode (tableWord nbits w).1 (tableWord nbits w).2 with
  | .ok i => some i
  | .error _ => none

/-! ### The encoder -/

/-- The bytes of a packet (R73, R74 to R76, R78). -/
def packetBytes (f : PacketFields) : Bytes :=
  [BitVec.ofNat 8 f.payload.length,
   headerByte1 f.offset f.internal f.typeCode (BitVec.ofNat 2 (f.payload.length / 256)),
   headerByte2 f.acknum f.response (BitVec.ofNat 4 f.msgId.length)]
  ++ f.msgId ++ f.payload ++ [lowByte f.checksum, highByte f.checksum]

/-- The dispatch word of a state and a byte (R84). -/
def dispatchBytes (st : FsmState) (b : Byte) : Bytes := [b, st.code.setWidth 8]

/-- A code of at most 8 bits as a one-byte word. -/
def codeByte (n : Nat) : Bytes := [BitVec.ofNat 8 n]

/-- The encoder: the format and the bytes of an instruction, `none` for the rows that have no encoding (R70). FEED_STREAM
and VALIDATE are written as the wire bytes and the packet bytes they are given, where those are no row of their own.
Bits a row ignores are written as zero. -/
def encode : Instr → Option (Format × Bytes)
  | .new none => some (.port, [4, 0])
  | .decode b => some (.port, [2, b])
  | .reset => some (.port, [3, 0])
  | .idle => some (.port, [0, 0])
  | .decodeDelim => some (.dispatch, dispatchBytes .frameOffset delimiter)
  | .decodeFrameOffset b => some (.dispatch, dispatchBytes .frameOffset b)
  | .decodeHeaderB0 b => some (.dispatch, dispatchBytes .headerB0 b)
  | .decodeHeaderB1 b => some (.dispatch, dispatchBytes .headerB1 b)
  | .decodeHeaderB2 b => some (.dispatch, dispatchBytes .headerB2 b)
  | .decodeMsgId b => some (.dispatch, dispatchBytes .msgId b)
  | .decodeOffsetB0 b => some (.dispatch, dispatchBytes .offsetB0 b)
  | .decodeOffsetB1 b => some (.dispatch, dispatchBytes .offsetB1 b)
  | .decodePayload b => some (.dispatch, dispatchBytes .payload b)
  | .decodeCrcB0 b => some (.dispatch, dispatchBytes .crcB0 b)
  | .decodeCrcB1 b => some (.dispatch, dispatchBytes .crcB1 b)
  | .frame body => some (.wire, body ++ [delimiter])
  | .delim => some (.wire, [delimiter])
  | .feedStream bs => if (wireRow bs).isNone then some (.wire, bs) else none
  | .packet f => some (.packet, packetBytes f)
  | .validate p => if (packetRow p).isNone then some (.packet, p) else none
  | .headerB0 b => some (.headerB0, [b])
  | .headerB1 o i t d => some (.headerB1, [headerByte1 o i t d])
  | .headerB2 a r n => some (.headerB2, [headerByte2 a r n])
  | .checksumField c => some (.checksumField, [lowByte c, highByte c])
  | .typeCallback => some (.typeCode, codeByte 0)
  | .typeCustom => some (.typeCode, codeByte 1)
  | .typeOffsetMetadata => some (.typeCode, codeByte 2)
  | .typeByte => some (.typeCode, codeByte 3)
  | .typeChar => some (.typeCode, codeByte 4)
  | .typeInt8 => some (.typeCode, codeByte 5)
  | .typeUInt8 => some (.typeCode, codeByte 6)
  | .typeInt16 => some (.typeCode, codeByte 7)
  | .typeUInt16 => some (.typeCode, codeByte 8)
  | .typeInt32 => some (.typeCode, codeByte 9)
  | .typeUInt32 => some (.typeCode, codeByte 10)
  | .typeFloat32 => some (.typeCode, codeByte 11)
  | .typeFloat64 => some (.typeCode, codeByte 12)
  | .typeUnknown13 => some (.typeCode, codeByte 13)
  | .typeUnknown14 => some (.typeCode, codeByte 14)
  | .typeUnknown15 => some (.typeCode, codeByte 15)
  | .stateFrameOffset => some (.stateCode, codeByte 0)
  | .stateHeaderB0 => some (.stateCode, codeByte 1)
  | .stateHeaderB1 => some (.stateCode, codeByte 2)
  | .stateHeaderB2 => some (.stateCode, codeByte 3)
  | .stateMsgId => some (.stateCode, codeByte 4)
  | .stateOffsetB0 => some (.stateCode, codeByte 5)
  | .stateOffsetB1 => some (.stateCode, codeByte 6)
  | .statePayload => some (.stateCode, codeByte 7)
  | .stateCrcB0 => some (.stateCode, codeByte 8)
  | .stateCrcB1 => some (.stateCode, codeByte 9)
  | .outNone => some (.outcomeCode, codeByte 0)
  | .outPacket => some (.outcomeCode, codeByte 1)
  | .outError => some (.outcomeCode, codeByte 2)
  | .errMissingHeader => some (.errorCode, codeByte 1)
  | .errMissingChecksum => some (.errorCode, codeByte 2)
  | .errIncompletePayload => some (.errorCode, codeByte 3)
  | .errInvalidDataLength => some (.errorCode, codeByte 4)
  | .errInvalidMessageIdLength => some (.errorCode, codeByte 5)
  | .errInvalidMessageId => some (.errorCode, codeByte 6)
  | .errUnknownMessageType info => some (.errorCode, codeByte (7 + 16 * info.toNat))
  | .errInvalidChecksum => some (.errorCode, codeByte 8)
  | .errFramingDecodeError => some (.errorCode, codeByte 9)
  | .errInsufficientBufferSize => some (.errorCode, codeByte 10)
  | .new (some _) | .count | .invalidCount | .decodeCodeAfterFf _ | .decodeFull _ | .feed _ | .resetFsm | .unstuff _
  | .unstuffFf _ | .crc16 _ _ | .computeChecksum _ | .getDataLength _ | .getOffset _ | .getType _
  | .getInternal _ | .getIdLength _ | .getResponse _ | .getAcknum _ | .typeFromCode _ | .typeToCode _ | .typeSize _
  | .typeArraySize _ _ | .msgIdNew _ | .msgId _ | .payload _ | .checksum _ | .wireSize _ | .encodeFrame _
  | .maxEncodedLen _ | .decodeBuf _ | .decodeInPlace _ | .newUnchecked _ | .setDataLength _ _ | .setOffset _ _
  | .setType _ _ | .setInternal _ _ | .setIdLength _ _ | .setResponse _ _ | .setAcknum _ _ | .setMsgId _ _
  | .setPayload _ _ | .setChecksum _ _ | .pkt _ | .frameOf _ => none

end Sys2Proof
end

