-- ==== Sys2Proof/Machine/State.lean ====
section
/-! DEFINITION. The state of one EUI-CORE instance as plain data (spec/10_state.md R20: "The whole state"; R33:
nothing else exists), the ten errors (R240), the outcomes (R9), the results of the pure functions, and why a step
can be refused. Fields marked MODEL are the model's own and no register of the spec. -/

namespace Sys2Proof.Machine

/-- The ten errors (R240). They are returned values, not faults (R250). -/
inductive Err
  /-- R241: VALIDATE given fewer than 3 bytes. -/
  | missingHeader
  /-- R242: VALIDATE given 3 or 4 bytes. -/
  | missingChecksum
  /-- R243: VALIDATE given fewer bytes than the header announces. -/
  | incompletePayload
  /-- R244: SET_DATA_LENGTH above 1024. -/
  | invalidDataLength
  /-- R245: `id_length` 0, or above 15 in SET_ID_LENGTH. -/
  | invalidMessageIdLength
  /-- R246: the id bytes form no Message Identity. -/
  | invalidMessageId
  /-- R247: type code 13 to 15 under REJECT_UNKNOWN_TYPE; carries the code. -/
  | unknownMessageType (code : BitVec 4)
  /-- R248: stored and computed checksum differ. -/
  | invalidChecksum
  /-- R249: the input of the bulk decoder is no well-formed body. -/
  | framingDecodeError
  /-- R251: FEED with the buffer full. -/
  | insufficientBufferSize
  deriving DecidableEq, Repr

/-- The outcome of a DECODE (R9). `packet` carries the span's length and a copy of the span (D14). -/
inductive DecodeOutcome
  | none
  | packet (n : Nat) (bytes : Bytes)
  | error (e : Err)
  deriving DecidableEq, Repr

/-- The result of the operation just performed (R8 `return X`, R9, and the result column of R70). MODEL: the spec
returns it from the step, Host.Outcome has room for a state only (log entry 6). -/
inductive Result
  /-- The operation has no result (R70: NEW, RESET, RESET_FSM). -/
  | none
  /-- The outcome of a DECODE (R9). -/
  | outcome (o : DecodeOutcome)
  /-- The outcomes that are not NONE, in order (R83, FEED_STREAM); the ports show the last DECODE's (R35). -/
  | outcomes (os : List DecodeOutcome)
  /-- Success of VALIDATE or FEED (R171, R196). -/
  | ok
  /-- The error a pure function or FEED raised (R250). -/
  | error (e : Err)
  /-- What UNSTUFF hands on: a byte, or NOTHING (R111, R112). -/
  | reconstructed (x : Option Byte)
  /-- A number (counts, lengths, field values, checksums, sizes). -/
  | number (n : Nat)
  /-- A one-bit field. -/
  | flag (f : Bool)
  /-- A Message Type. -/
  | msgType (t : MsgType)
  /-- A byte string. -/
  | bytes (s : Bytes)
  /-- A Message Identity, or "no identity" (R140). -/
  | identity (s : Option Bytes)
  /-- How a builder operation ends: no error or one, and the caller's buffer as it leaves it (R220 to R230). -/
  | view (e : Option Err) (p : Bytes)
  /-- How DECODE_IN_PLACE ends: the decoded bytes, or nothing on FramingDecodeError, and the caller's buffer (R109). -/
  | inPlace (decoded : Option Bytes) (buffer : Bytes)
  /-- The fields of a packet (R73). -/
  | packet (f : PacketFields)
  /-- What header byte 0 says (R74). -/
  | headerB0 (dlLow : BitVec 8)
  /-- What header byte 1 says (R75). -/
  | headerB1 (offset internal : Bool) (type : MsgType) (dlHigh : BitVec 2)
  /-- What header byte 2 says (R76). -/
  | headerB2 (acknum : BitVec 3) (response : Bool) (idLength : BitVec 4)
  /-- The FSM state a state code stands for (R21). -/
  | fsm (st : FsmState)
  /-- The kind of outcome an `out_kind` code stands for (R35). -/
  | outKind (k : OutKind)
  deriving DecidableEq, Repr

/-- What the host issues (R10, R70): a word of an encoding format, or an operation issued whole. -/
inductive Issue
  | word (f : Format) (bytes : Bytes)
  | op (i : Instr)
  deriving DecidableEq, Repr

/-- BUF's written bytes: (address, byte) pairs, addresses strictly rising (R32). -/
abbrev Memory := List Host.Cell

/-- One EUI-CORE instance (R20). -/
structure State where
  /-- The configuration of R6: fixed at NEW, changed by no other operation. -/
  cfg : Config
  /-- `state` (R21). -/
  fsm : FsmState
  /-- `frame_offset`, the countdown (R22). -/
  frameOffset : BitVec 8
  /-- `cursor`: how many bytes of the current frame are stored (R23). At most `CAP` in every reachable state. -/
  cursor : Nat
  /-- `data_length` (R24). -/
  dataLength : BitVec 10
  /-- `offset_flag` (R25). -/
  offsetFlag : Bool
  /-- `id_length` (R26). -/
  idLength : BitVec 4
  /-- `id_count` (R27). -/
  idCount : BitVec 4
  /-- `payload_count` (R28). -/
  payloadCount : BitVec 10
  /-- `prev_code_ff` (R29); false throughout when FF_BLOCK_EXCEPTION is false (log entry 12). -/
  prevCodeFf : Bool
  /-- `valid_pkt_count` (R30). -/
  validPktCount : Nat
  /-- `invalid_pkt_count` (R31). -/
  invalidPktCount : Nat
  /-- BUF (R32): the bytes FEED has written since the last NEW. -/
  buf : Memory
  /-- MODEL: how many NEWs there have been; index of the free values of unwritten BUF bytes (U6, log entry 3). -/
  bufEpoch : Nat
  /-- MODEL: how many DECODE_IN_PLACEs have failed; index of the free values they leave (U4, log entry 4). -/
  freeDraws : Nat
  /-- MODEL: the result of the operation just performed (log entry 6). -/
  result : Result
  /-- MODEL: what the outcome ports show (R35): the outcome of the last operation that the block itself performed. It also
  says which bytes of BUF the host may read (R58). A read, a pure function or IDLE leaves it alone (log entry 6). -/
  portOutcome : DecodeOutcome
  /-- MODEL: what the host will issue, in order (R10, R56, log entry 5). -/
  pending : List Issue
  deriving DecidableEq, Repr

/-- No step faults: "Nothing in the block has the treatment `fault` or `stuck`" (93_implementation_defined.md);
"No error is fatal and none is sticky" (R259). The type has no constructor. -/
inductive Fault
  deriving DecidableEq, Repr

/-- Why the model gives an issued instruction no meaning. Each is safe: the model stops where the spec promises
nothing, so a true claim may be unprovable and no false one becomes provable. -/
inductive Refusal
  /-- Raised by exec's arm of an instruction that has no meaning yet. Safe. -/
  | notModelled (mnemonic : String)
  /-- Raised by a step whose issued word the decoder rejects: a code that R80 says is never produced, or a word that has
  not its format's width (R21, R35, R84, R240). Safe: such a word is no operation. -/
  | undecodable (e : DecodeError)
  /-- Raised by a getter or setter on a view shorter than its rule requires (U5). Safe. -/
  | viewTooShort
  /-- Raised by SET_DATA_LENGTH of 1024, and PKT with such a payload (U1). Safe. -/
  | dataLength1024
  /-- Raised by SET_ACKNUM, and PKT, above 7 (U2). Safe. -/
  | acknumOutOfRange
  /-- Raised by SET_TYPE, and PKT, of `Unknown(c)` with `c > 15` (U7). Safe. -/
  | typeCodeOutOfRange
  /-- Raised by SET_MSG_ID and SET_PAYLOAD when the length fields are not set or do not agree (U16). Safe. -/
  | lengthFieldMismatch
  /-- Raised by UNSTUFF and by a non-delimiter DECODE row on the byte `0x00`, which is not their operand (R71, R111). Safe. -/
  | delimiterOperand
  /-- Raised by a DECODE row that the machine's state does not select (R84, log entry 8). Safe. -/
  | notSelected
  /-- Raised by the UNSTUFF variant of the other setting of FF_BLOCK_EXCEPTION (R111, R112, log entry 9). Safe. -/
  | variantNotConfigured
  deriving DecidableEq, Repr

/-- What a pure function answers: a value, one of the ten errors (R250), or a refusal (no meaning). -/
inductive Ret (α : Type)
  | ok (a : α)
  | raise (e : Err)
  | refuse (r : Refusal)
  deriving DecidableEq, Repr

/-- The machine right after NEW (R181, R270), in the default configuration of R6 (log entry 1), with nothing issued. -/
def State.reset : State where
  cfg := Config.default
  fsm := .frameOffset
  frameOffset := 0
  cursor := 0
  dataLength := 0
  offsetFlag := false
  idLength := 0
  idCount := 0
  payloadCount := 0
  prevCodeFf := false
  validPktCount := 0
  invalidPktCount := 0
  buf := []
  bufEpoch := 0
  freeDraws := 0
  result := .none
  portOutcome := .none
  pending := []

end Sys2Proof.Machine
end

