-- ==== Sys2Proof/Machine/Flags.lean ====
section
/-! DEFINITION. The block's flags and status registers. It has no condition codes; R25: `offset_flag` is "the block's
only condition flag in the processor sense"; `prev_code_ff` is the de-framer's flag under the parameter (R29); the
two saturating counters are "the block's whole control-and-status register file" (R30, R31). -/

namespace Sys2Proof.Machine

/-- `2^CNT_W - 1`, where the counters stop (R30). -/
def counterMax (c : Config) : Nat := 2 ^ c.cntW - 1

/-- `sat_inc` (R8, R30). -/
def satInc (c : Config) (n : Nat) : Nat := if n < counterMax c then n + 1 else n

/-- The new `prev_code_ff`: whether the code byte just loaded is `0xFF` (R29, R112). -/
def isFfCode (b : Byte) : Bool := b == 0xFF#8

/-- The countdown has expired: `frame_offset` is 0 or 1, so the next byte is a code byte (R111). -/
def countdownExpired (s : State) : Bool := s.frameOffset.toNat ≤ 1

/-- UNSTUFF will hand nothing on: the expired code byte was `0xFF` under FF_BLOCK_EXCEPTION (R112). -/
def skipsImpliedZero (s : State) : Bool := s.cfg.ffBlockException && countdownExpired s && s.prevCodeFf

/-- The states that store the reconstructed byte (R251): all but FrameOffset, OffsetB0 and OffsetB1. -/
def storingState : FsmState → Bool
  | .frameOffset | .offsetB0 | .offsetB1 => false
  | .headerB0 | .headerB1 | .headerB2 | .msgId | .payload | .crcB0 | .crcB1 => true

/-- The buffer has no room for another byte: `cursor >= CAP` (R196). -/
def bufferFull (s : State) : Bool := s.cfg.cap ≤ s.cursor

end Sys2Proof.Machine
end

