-- ==== Sys2Proof/Machine/Ops.lean ====
section
/-! DEFINITION. The named operations over BUF, the registers, results and errors. -/

namespace Sys2Proof.Machine

/-! ### Memory: the written bytes of BUF (R32, R53) -/

/-- The byte at an address, `none` when nothing has written it since the last NEW. -/
def Memory.read? : Memory → Nat → Option Byte
  | [], _ => none
  | (k, v) :: m, a => if k = a then some v else Memory.read? m a

/-- Store a byte, keeping the addresses strictly rising. -/
def Memory.write : Memory → Nat → Byte → Memory
  | [], a, x => [(a, x)]
  | (k, v) :: m, a, x =>
    if a < k then (a, x) :: (k, v) :: m
    else if a = k then (a, x) :: m
    else (k, v) :: Memory.write m a x

/-- The canonical form: addresses strictly rising. No listed byte equals "nothing written", which is what an
unlisted address reads as, so equal memories are equal lists. -/
def Memory.wf : Memory → Bool
  | [] => true
  | [_] => true
  | (a, _) :: (b, v) :: m => decide (a < b) && Memory.wf ((b, v) :: m)

/-- `BUF[a]` (R8): a byte that no FEED has written since NEW is a free value (R32, U6). -/
def State.bufByte (s : State) (a : Nat) : Byte :=
  (Memory.read? s.buf a).getD (Config.uninitialised s.bufEpoch a)

/-- `BUF[0..n-1]` (R7, R195). -/
def State.span (s : State) (n : Nat) : Bytes := (List.range n).map s.bufByte

/-! ### Register updates, one for each write the rules make -/

/-- `return X` (R8). -/
def State.finish (s : State) (r : Result) : State := { s with result := r }

/-- The outcome of the operation just performed goes to the outcome ports (R35). -/
def State.drive (s : State) (o : DecodeOutcome) : State := { s with portOutcome := o }

/-- `r.state <- st` (R8, R21). -/
def State.goto (s : State) (st : FsmState) : State := { s with fsm := st }

/-- `r.frame_offset <- v` (R22). -/
def State.setFrameOffset (s : State) (v : BitVec 8) : State := { s with frameOffset := v }

/-- `r.prev_code_ff <- v` (R29). -/
def State.setPrevCodeFf (s : State) (v : Bool) : State := { s with prevCodeFf := v }

/-- `BUF[r.cursor] <- x; r.cursor <- r.cursor + 1` (R196). -/
def State.store (s : State) (x : Byte) : State :=
  { s with buf := Memory.write s.buf s.cursor x, cursor := s.cursor + 1 }

/-- `r.data_length[7:0] <- x` (R184). -/
def State.latchLengthLow (s : State) (x : Byte) : State :=
  { s with dataLength := s.dataLength.extractLsb' 8 2 ++ x }

/-- `r.data_length[9:8] <- x[1:0]; r.offset_flag <- x[7]` (R185). -/
def State.latchLengthHigh (s : State) (x : Byte) : State :=
  { s with dataLength := x.extractLsb' 0 2 ++ s.dataLength.extractLsb' 0 8, offsetFlag := offsetOf x }

/-- `r.id_length <- x[3:0]; r.id_count <- 0` (R186). -/
def State.latchIdLength (s : State) (x : Byte) : State := { s with idLength := idLengthOf x, idCount := 0 }

/-- `r.id_count <- r.id_count + 1` (R187). -/
def State.countId (s : State) : State := { s with idCount := s.idCount + 1 }

/-- `r.payload_count <- r.payload_count + 1` (R192). -/
def State.countPayload (s : State) : State := { s with payloadCount := s.payloadCount + 1 }

/-- RESET_FSM (R199): `state` and every working register; not the counters, not BUF. -/
def State.resetFsm (s : State) : State :=
  { s with
    fsm := .frameOffset
    frameOffset := 0
    cursor := 0
    dataLength := 0
    offsetFlag := false
    idLength := 0
    idCount := 0
    payloadCount := 0
    prevCodeFf := false }

/-- `r.valid_pkt_count <- sat_inc(r.valid_pkt_count)` (R195). -/
def State.countValid (s : State) : State := { s with validPktCount := satInc s.cfg s.validPktCount }

/-- `r.invalid_pkt_count <- sat_inc(r.invalid_pkt_count)` (R195). -/
def State.countInvalid (s : State) : State := { s with invalidPktCount := satInc s.cfg s.invalidPktCount }

/-- NEW (R181, R270) with configuration `c`: RESET_FSM and both counters to 0. "BUF is not written; its content is
unspecified": the model forgets it and every byte reads as a new free value (log entry 3). -/
def State.renew (s : State) (c : Config) : State :=
  { s.resetFsm with cfg := c, validPktCount := 0, invalidPktCount := 0, buf := [], bufEpoch := s.bufEpoch + 1 }

/-- MODEL: a failed DECODE_IN_PLACE has used its free values (U4). -/
def State.drawFree (s : State) : State := { s with freeDraws := s.freeDraws + 1 }

/-- MODEL: the host's next operation is taken; the rest stay (R10, R56). -/
def State.dequeue (s : State) (rest : List Issue) : State := { s with pending := rest }

/-! ### Raising an error: the block's exceptions (R250)

There is nothing to save, no mode, no mask and no vector, and "There is no return-from-trap operation and nothing to
restore" (R254): an error is the operation's result and the next operation runs as usual (R259). -/

/-- `raise E(info)` out of a pure function or FEED (R250): the error is the result, nothing else changes. -/
def State.raiseError (s : State) (e : Err) : State := s.finish (.error e)

/-- The end of a DECODE (R9, R35, R250): the outcome, an `ERROR(E, info)` among them, is the result and goes to the
ports. -/
def finishOutcome (r : State × DecodeOutcome) : State := (r.1.finish (.outcome r.2)).drive r.2

/-- The end of an operation of the block that has no outcome (RESET, R182; NEW): no result, and the ports show NONE
(log entry 6). -/
def State.finishQuiet (s : State) : State := (s.finish .none).drive .none

/-! ### Pure functions: their answers, and delivering them -/

/-- Sequencing of pure functions: the first error or refusal ends the operation (R250, R253). -/
def Ret.bind {α β : Type} (r : Ret α) (f : α → Ret β) : Ret β :=
  match r with
  | .ok a => f a
  | .raise e => .raise e
  | .refuse why => .refuse why

/-- A function that requires `n` bytes of view (R130 to R145, U5). -/
def needLength {α : Type} (p : Bytes) (n : Nat) (r : Ret α) : Ret α :=
  if p.length < n then .refuse .viewTooShort else r

/-- A pure function as an operation: its value or its error is the result; no register changes. -/
def deliver {α : Type} (f : α → Result) (r : Ret α) (s : State) : Host.Outcome State Fault Refusal :=
  match r with
  | .ok a => .next (s.finish (f a))
  | .raise e => .next (s.raiseError e)
  | .refuse why => .refused why

/-- A builder operation on the caller's buffer `p`: "In every setter an error leaves `P` untouched" (44_packet_builder.md). -/
def deliverView (p : Bytes) (r : Ret Bytes) (s : State) : Host.Outcome State Fault Refusal :=
  match r with
  | .ok p' => .next (s.finish (.view none p'))
  | .raise e => .next (s.finish (.view (some e) p))
  | .refuse why => .refused why

/-! ### Taking the next operation -/

/-- The instruction of an issued operation: a word is decoded, an operation issued whole is itself (R70). -/
def fetch : Issue → Except DecodeError Instr
  | .word f bs => decode f bs
  | .op i => .ok i

/-- The FSM state of a 4-bit code (R21); 10 to 15 are never produced. -/
def fsmOfCode (c : BitVec 4) : Option FsmState :=
  match c.toNat with
  | 0 => some .frameOffset
  | 1 => some .headerB0
  | 2 => some .headerB1
  | 3 => some .headerB2
  | 4 => some .msgId
  | 5 => some .offsetB0
  | 6 => some .offsetB1
  | 7 => some .payload
  | 8 => some .crcB0
  | 9 => some .crcB1
  | _ => none

/-- The state in which an issued word can be selected: a dispatch word of a non-zero byte holds the code of `state`
(R84); every other word leaves the machine as it is. -/
def State.selectFor (s : State) : Format × Bytes → State
  | (.dispatch, [b, st]) =>
    match fsmOfCode (st.setWidth 4) with
    | some f => if b = delimiter then s else s.goto f
    | none => s
  | _ => s

end Sys2Proof.Machine
end

