-- ==== Sys2Proof/Machine/Crc.lean ====
section
/-! DEFINITION. The CRC-check validator: CRC16, COMPUTE_CHECKSUM, VALIDATE (spec/42_crc_validator.md). -/

namespace Sys2Proof.Machine

/-- One shift of the CRC register (R161): `<< 1` drops bit 15 (R175). -/
def crcShift (crc : Word16) : Word16 := if crc.getLsbD 15 then (crc <<< 1) ^^^ crcPoly else crc <<< 1

/-- `repeat n times` of R161. -/
def crcShifts : Nat → Word16 → Word16
  | 0, crc => crc
  | n + 1, crc => crcShifts n (crcShift crc)

/-- One byte into the CRC register: into the high half, then eight shifts (R161). -/
def crcByte (crc : Word16) (b : Byte) : Word16 := crcShifts 8 (crc ^^^ (b.setWidth 16 <<< 8))

/-- CRC16 from a starting value (R160, R161). -/
def crc16 (c0 : Word16) (s : Bytes) : Word16 := s.foldl crcByte c0

/-- COMPUTE_CHECKSUM (R164): the CRC of header, id and payload. -/
def computedChecksum (p : Bytes) : Word16 := crc16 crcInit (p.take (checksumIndex p))

/-- VALIDATE (R165 to R171): the first check that fails decides (R253); `none` is OK. -/
def validate (rejectUnknownType : Bool) (p : Bytes) : Option Err :=
  if p.length < 3 then some .missingHeader
  else if p.length < 5 then some .missingChecksum
  else if (viewIdLength p).toNat = 0 then some .invalidMessageIdLength
  else if p.length < viewWireSize p then some .incompletePayload
  else if rejectUnknownType ∧ 12 < (viewTypeCode p).toNat then some (.unknownMessageType (viewTypeCode p))
  else if viewChecksum p ≠ computedChecksum p then some .invalidChecksum
  else none

/-- VALIDATE (R171). -/
def execValidate (p : Bytes) (s : State) : Host.Outcome State Fault Refusal :=
  match validate s.cfg.rejectUnknownType p with
  | none => .next (s.finish .ok)
  | some e => .next (s.raiseError e)

/-- CRC16 (R161): the starting value is `0xFFFF` unless one is given. -/
def execCrc16 (p : Bytes) (c0 : Option Word16) (s : State) : Host.Outcome State Fault Refusal :=
  .next (s.finish (.number (crc16 (c0.getD crcInit) p).toNat))

/-- COMPUTE_CHECKSUM (R164): requires `len(P) >= 3 + id_length + data_length`. -/
def execComputeChecksum (p : Bytes) (s : State) : Host.Outcome State Fault Refusal :=
  deliver (fun c : Word16 => .number c.toNat)
    (needLength p 3 (needLength p (checksumIndex p) (.ok (computedChecksum p)))) s

end Sys2Proof.Machine
end

