-- ==== Sys2Proof/Machine/Builder.lean ====
section
/-! DEFINITION. The packet builder: NEW_UNCHECKED, the field setters and the recipe PKT (spec/44_packet_builder.md).
The setters act on the caller's buffer, never on BUF (R58); each writes only its own mask and keeps its siblings. -/

namespace Sys2Proof.Machine

/-- `P[i] <- (P[i] & keep) | v`: read-modify-write of one byte's own mask. -/
def maskByte (p : Bytes) (i : Nat) (keep v : Byte) : Bytes := p.set i ((byteAt p i &&& keep) ||| v)

/-- A flag as bit `n` of a byte. -/
def flagBit (f : Bool) (n : Nat) : Byte := (BitVec.ofBool f).setWidth 8 <<< n

/-- SET_DATA_LENGTH (R221); 1024 passes the range test, does not fit, and has no meaning (U1). -/
def setDataLength (p : Bytes) (v : Nat) : Ret Bytes :=
  needLength p 2 <|
    if 1024 < v then .raise .invalidDataLength
    else if v = 1024 then .refuse .dataLength1024
    else .ok (maskByte (p.set 0 (BitVec.ofNat 8 v)) 1 0xFC#8 (BitVec.ofNat 8 (v / 256)))

/-- SET_OFFSET (R222). -/
def setOffset (p : Bytes) (f : Bool) : Ret Bytes := needLength p 2 (.ok (maskByte p 1 0x7F#8 (flagBit f 7)))

/-- SET_TYPE (R223); a code above 15 has no meaning (U7). -/
def setType (p : Bytes) (t : MsgType) : Ret Bytes :=
  needLength p 2 <|
    if 15 < msgTypeCode t then .refuse .typeCodeOutOfRange
    else .ok (maskByte p 1 0xC3#8 (BitVec.ofNat 8 (msgTypeCode t) <<< 2))

/-- SET_INTERNAL (R224). -/
def setInternal (p : Bytes) (f : Bool) : Ret Bytes := needLength p 2 (.ok (maskByte p 1 0xBF#8 (flagBit f 6)))

/-- SET_ID_LENGTH (R225). -/
def setIdLength (p : Bytes) (v : Nat) : Ret Bytes :=
  needLength p 3 <|
    if v = 0 ∨ 15 < v then .raise .invalidMessageIdLength
    else .ok (maskByte p 2 0xF0#8 (BitVec.ofNat 8 v))

/-- SET_RESPONSE (R226). -/
def setResponse (p : Bytes) (f : Bool) : Ret Bytes := needLength p 3 (.ok (maskByte p 2 0xEF#8 (flagBit f 4)))

/-- SET_ACKNUM (R227); above 7 it has no meaning (U2). -/
def setAcknum (p : Bytes) (v : Nat) : Ret Bytes :=
  needLength p 3 <|
    if 7 < v then .refuse .acknumOutOfRange
    else .ok (maskByte p 2 0x1F#8 (BitVec.ofNat 8 v <<< 5))

/-- SET_MSG_ID (R228): the identity is checked first, then the preconditions (U16, U5). -/
def setMsgId (p : Bytes) (d : Bytes) : Ret Bytes :=
  match identity? d with
  | none => .raise .invalidMessageId
  | some _ =>
    needLength p 3 <|
      if d.length ≠ (viewIdLength p).toNat then .refuse .lengthFieldMismatch
      else needLength p (3 + d.length) (.ok (splice p 3 d))

/-- SET_PAYLOAD (R229; U16, U5). -/
def setPayload (p : Bytes) (d : Bytes) : Ret Bytes :=
  needLength p 3 <|
    if (viewIdLength p).toNat = 0 ∨ d.length ≠ (viewDataLength p).toNat then .refuse .lengthFieldMismatch
    else needLength p (3 + (viewIdLength p).toNat + d.length) (.ok (splice p (3 + (viewIdLength p).toNat) d))

/-- SET_CHECKSUM (R230): little-endian at `k` (R50). -/
def setChecksum (p : Bytes) (c : Word16) : Ret Bytes :=
  needLength p 3 <| needLength p (viewWireSize p) <|
    .ok ((p.set (checksumIndex p) (lowByte c)).set (checksumIndex p + 1) (highByte c))

/-- The header of PKT (R231): the seven header setters, in the recipe's order. DESIGN CHOICE (log entry 21): the lengths
go to the setters' range tests as they are, also from 65536 payload bytes or 256 id bytes on, which the setters' 16-bit and
8-bit operands (R221, R225) cannot hold and to which the spec gives no meaning. -/
def pktHeader (k : PktArgs) (p : Bytes) : Ret Bytes :=
  (setDataLength p k.payload.length).bind fun p =>
  (setType p k.type).bind fun p =>
  (setInternal p k.internal).bind fun p =>
  (setOffset p k.offset).bind fun p =>
  (setIdLength p k.id.length).bind fun p =>
  (setResponse p k.response).bind fun p =>
  setAcknum p k.acknum

/-- PKT (R231): zero bytes, the header, the id, the payload, and the computed checksum last. -/
def buildPacket (k : PktArgs) : Ret Bytes :=
  (pktHeader k (List.replicate (3 + k.id.length + k.payload.length + 2) 0#8)).bind fun p =>
  (setMsgId p k.id).bind fun p =>
  (setPayload p k.payload).bind fun p =>
  setChecksum p (computedChecksum p)

/-- NEW_UNCHECKED (R220): "Nothing is checked, read or written". -/
def execNewUnchecked (p : Bytes) (s : State) : Host.Outcome State Fault Refusal := deliverView p (.ok p) s

/-- SET_DATA_LENGTH (R221). -/
def execSetDataLength (p : Bytes) (v : Word16) (s : State) : Host.Outcome State Fault Refusal :=
  deliverView p (setDataLength p v.toNat) s

/-- SET_OFFSET (R222). -/
def execSetOffset (p : Bytes) (f : Bool) (s : State) : Host.Outcome State Fault Refusal :=
  deliverView p (setOffset p f) s

/-- SET_TYPE (R223). -/
def execSetType (p : Bytes) (t : MsgType) (s : State) : Host.Outcome State Fault Refusal :=
  deliverView p (setType p t) s

/-- SET_INTERNAL (R224). -/
def execSetInternal (p : Bytes) (f : Bool) (s : State) : Host.Outcome State Fault Refusal :=
  deliverView p (setInternal p f) s

/-- SET_ID_LENGTH (R225). -/
def execSetIdLength (p : Bytes) (v : Byte) (s : State) : Host.Outcome State Fault Refusal :=
  deliverView p (setIdLength p v.toNat) s

/-- SET_RESPONSE (R226). -/
def execSetResponse (p : Bytes) (f : Bool) (s : State) : Host.Outcome State Fault Refusal :=
  deliverView p (setResponse p f) s

/-- SET_ACKNUM (R227). -/
def execSetAcknum (p : Bytes) (v : Nat) (s : State) : Host.Outcome State Fault Refusal :=
  deliverView p (setAcknum p v) s

/-- SET_MSG_ID (R228). -/
def execSetMsgId (p d : Bytes) (s : State) : Host.Outcome State Fault Refusal := deliverView p (setMsgId p d) s

/-- SET_PAYLOAD (R229). -/
def execSetPayload (p d : Bytes) (s : State) : Host.Outcome State Fault Refusal := deliverView p (setPayload p d) s

/-- SET_CHECKSUM (R230). -/
def execSetChecksum (p : Bytes) (c : Word16) (s : State) : Host.Outcome State Fault Refusal :=
  deliverView p (setChecksum p c) s

/-- PKT (R231). -/
def execPkt (k : PktArgs) (s : State) : Host.Outcome State Fault Refusal := deliver .bytes (buildPacket k) s

end Sys2Proof.Machine
end

