-- ==== Sys2Proof/Machine/Codes.lean ====
section
/-! DEFINITION. The code rows: type codes (R79), state codes (R21), outcome codes (R35) and error codes (R240). They are
encodings, not operations of the block: the meaning of such a row is what its code stands for, delivered as the result;
no register changes (log entry 7). -/

namespace Sys2Proof.Machine

/-! ### Type codes (R79): the type that TYPE_FROM_CODE gives the row's code (R137) -/

/-- Type code 0. -/
def execTypeCallback (s : State) : Host.Outcome State Fault Refusal :=
  .next (s.finish (.msgType (msgTypeOfCode 0)))

/-- Type code 1. -/
def execTypeCustom (s : State) : Host.Outcome State Fault Refusal :=
  .next (s.finish (.msgType (msgTypeOfCode 1)))

/-- Type code 2. -/
def execTypeOffsetMetadata (s : State) : Host.Outcome State Fault Refusal :=
  .next (s.finish (.msgType (msgTypeOfCode 2)))

/-- Type code 3. -/
def execTypeByte (s : State) : Host.Outcome State Fault Refusal :=
  .next (s.finish (.msgType (msgTypeOfCode 3)))

/-- Type code 4. -/
def execTypeChar (s : State) : Host.Outcome State Fault Refusal :=
  .next (s.finish (.msgType (msgTypeOfCode 4)))

/-- Type code 5. -/
def execTypeInt8 (s : State) : Host.Outcome State Fault Refusal :=
  .next (s.finish (.msgType (msgTypeOfCode 5)))

/-- Type code 6. -/
def execTypeUInt8 (s : State) : Host.Outcome State Fault Refusal :=
  .next (s.finish (.msgType (msgTypeOfCode 6)))

/-- Type code 7. -/
def execTypeInt16 (s : State) : Host.Outcome State Fault Refusal :=
  .next (s.finish (.msgType (msgTypeOfCode 7)))

/-- Type code 8. -/
def execTypeUInt16 (s : State) : Host.Outcome State Fault Refusal :=
  .next (s.finish (.msgType (msgTypeOfCode 8)))

/-- Type code 9. -/
def execTypeInt32 (s : State) : Host.Outcome State Fault Refusal :=
  .next (s.finish (.msgType (msgTypeOfCode 9)))

/-- Type code 10. -/
def execTypeUInt32 (s : State) : Host.Outcome State Fault Refusal :=
  .next (s.finish (.msgType (msgTypeOfCode 10)))

/-- Type code 11. -/
def execTypeFloat32 (s : State) : Host.Outcome State Fault Refusal :=
  .next (s.finish (.msgType (msgTypeOfCode 11)))

/-- Type code 12. -/
def execTypeFloat64 (s : State) : Host.Outcome State Fault Refusal :=
  .next (s.finish (.msgType (msgTypeOfCode 12)))

/-- Type code 13. -/
def execTypeUnknown13 (s : State) : Host.Outcome State Fault Refusal :=
  .next (s.finish (.msgType (msgTypeOfCode 13)))

/-- Type code 14. -/
def execTypeUnknown14 (s : State) : Host.Outcome State Fault Refusal :=
  .next (s.finish (.msgType (msgTypeOfCode 14)))

/-- Type code 15. -/
def execTypeUnknown15 (s : State) : Host.Outcome State Fault Refusal :=
  .next (s.finish (.msgType (msgTypeOfCode 15)))

/-! ### State codes (R21) -/

/-- State code 0. -/
def execStateFrameOffset (s : State) : Host.Outcome State Fault Refusal := .next (s.finish (.fsm .frameOffset))

/-- State code 1. -/
def execStateHeaderB0 (s : State) : Host.Outcome State Fault Refusal := .next (s.finish (.fsm .headerB0))

/-- State code 2. -/
def execStateHeaderB1 (s : State) : Host.Outcome State Fault Refusal := .next (s.finish (.fsm .headerB1))

/-- State code 3. -/
def execStateHeaderB2 (s : State) : Host.Outcome State Fault Refusal := .next (s.finish (.fsm .headerB2))

/-- State code 4. -/
def execStateMsgId (s : State) : Host.Outcome State Fault Refusal := .next (s.finish (.fsm .msgId))

/-- State code 5. -/
def execStateOffsetB0 (s : State) : Host.Outcome State Fault Refusal := .next (s.finish (.fsm .offsetB0))

/-- State code 6. -/
def execStateOffsetB1 (s : State) : Host.Outcome State Fault Refusal := .next (s.finish (.fsm .offsetB1))

/-- State code 7. -/
def execStatePayload (s : State) : Host.Outcome State Fault Refusal := .next (s.finish (.fsm .payload))

/-- State code 8. -/
def execStateCrcB0 (s : State) : Host.Outcome State Fault Refusal := .next (s.finish (.fsm .crcB0))

/-- State code 9. -/
def execStateCrcB1 (s : State) : Host.Outcome State Fault Refusal := .next (s.finish (.fsm .crcB1))

/-! ### Outcome codes on `out_kind` (R35) -/

/-- `out_kind` 0. -/
def execOutNone (s : State) : Host.Outcome State Fault Refusal := .next (s.finish (.outKind .none))

/-- `out_kind` 1. -/
def execOutPacket (s : State) : Host.Outcome State Fault Refusal := .next (s.finish (.outKind .packet))

/-- `out_kind` 2. -/
def execOutError (s : State) : Host.Outcome State Fault Refusal := .next (s.finish (.outKind .error))

/-! ### Error codes (R240): the error is raised, as the operation's result (R250) -/

/-- `out_err` 1 (R241). -/
def execErrMissingHeader (s : State) : Host.Outcome State Fault Refusal :=
  .next (s.raiseError .missingHeader)

/-- `out_err` 2 (R242). -/
def execErrMissingChecksum (s : State) : Host.Outcome State Fault Refusal :=
  .next (s.raiseError .missingChecksum)

/-- `out_err` 3 (R243). -/
def execErrIncompletePayload (s : State) : Host.Outcome State Fault Refusal :=
  .next (s.raiseError .incompletePayload)

/-- `out_err` 4 (R244). -/
def execErrInvalidDataLength (s : State) : Host.Outcome State Fault Refusal :=
  .next (s.raiseError .invalidDataLength)

/-- `out_err` 5 (R245). -/
def execErrInvalidMessageIdLength (s : State) : Host.Outcome State Fault Refusal :=
  .next (s.raiseError .invalidMessageIdLength)

/-- `out_err` 6 (R246). -/
def execErrInvalidMessageId (s : State) : Host.Outcome State Fault Refusal :=
  .next (s.raiseError .invalidMessageId)

/-- `out_err` 7 with the type code on `out_info` (R240, R247). DESIGN CHOICE (log entry 7): R240 gives the info 13 to 15
only; issued whole with an info of 0 to 12 the row raises the error with that info all the same, while the decoder rejects
such a word. -/
def execErrUnknownMessageType (info : BitVec 4) (s : State) : Host.Outcome State Fault Refusal :=
  .next (s.raiseError (.unknownMessageType info))

/-- `out_err` 8 (R248). -/
def execErrInvalidChecksum (s : State) : Host.Outcome State Fault Refusal :=
  .next (s.raiseError .invalidChecksum)

/-- `out_err` 9 (R249). -/
def execErrFramingDecodeError (s : State) : Host.Outcome State Fault Refusal :=
  .next (s.raiseError .framingDecodeError)

/-- `out_err` 10 (R251). -/
def execErrInsufficientBufferSize (s : State) : Host.Outcome State Fault Refusal :=
  .next (s.raiseError .insufficientBufferSize)

end Sys2Proof.Machine
end

