-- ==== Sys2Proof/Machine/Framing.lean ====
section
/-! DEFINITION. The bulk coder: ENCODE_FRAME, MAX_ENCODED_LEN, DECODE_BUF, DECODE_IN_PLACE (spec/40_framing.md).
The online de-framer UNSTUFF is in Machine/Decoder.lean. -/

namespace Sys2Proof.Machine

/-- A closed block: its code byte, one more than its number of data bytes, and the data (R102 `out[ci] <- code`). -/
def closeBlock (data : Bytes) : Bytes := BitVec.ofNat 8 (data.length + 1) :: data

/-- The loop of R102 with `block` the data bytes of the open block: a zero closes it; so do 254 data bytes that are
not the last of the input, with no zero implied. -/
def encodeLoop (block : Bytes) : Bytes → Bytes
  | [] => closeBlock block
  | x :: rest =>
    if x = 0#8 then closeBlock block ++ encodeLoop [] rest
    else if block.length + 1 = 254 ∧ rest ≠ [] then closeBlock (block ++ [x]) ++ encodeLoop [] rest
    else encodeLoop (block ++ [x]) rest

/-- The body of the frame of a byte string: ENCODE_FRAME without the terminator (R102). -/
def encodeBody (s : Bytes) : Bytes := encodeLoop [] s

/-- ENCODE_FRAME (R102). -/
def encodedFrame (s : Bytes) : Bytes := encodeBody s ++ [delimiter]

/-- MAX_ENCODED_LEN (R104): `n + ceil(n / 254) + 1`, and 2 for `n = 0` (C2). -/
def maxEncodedLength (n : Nat) : Nat := if n = 0 then 2 else n + (n + 253) / 254 + 1

/-- The decoded data of a chain of blocks (R106): an implied zero between two blocks, none after a block whose code
byte is `0xFF`. -/
def joinBlocks : List Block → Bytes
  | [] => []
  | [b] => b.data
  | b :: c :: rest => b.data ++ (if b.code = 0xFF#8 then [] else [0#8]) ++ joinBlocks (c :: rest)

/-- DECODE_BUF (R106). The blocks are cut exactly where the loop of R106 raises no error. -/
def decodedBody (e : Bytes) : Ret Bytes :=
  match blocks? e with
  | some bs => .ok (joinBlocks bs)
  | none => .raise .framingDecodeError

/-- ENCODE_FRAME (R102): total. -/
def execEncodeFrame (p : Bytes) (s : State) : Host.Outcome State Fault Refusal :=
  .next (s.finish (.bytes (encodedFrame p)))

/-- MAX_ENCODED_LEN (R104). -/
def execMaxEncodedLen (n : Nat) (s : State) : Host.Outcome State Fault Refusal :=
  .next (s.finish (.number (maxEncodedLength n)))

/-- DECODE_BUF (R106, R107). -/
def execDecodeBuf (e : Bytes) (s : State) : Host.Outcome State Fault Refusal := deliver .bytes (decodedBody e) s

/-- The buffer a failed DECODE_IN_PLACE leaves: every byte a free value (U4). -/
def freeBuffer (draw n : Nat) : Bytes := (List.range n).map (Config.afterFailedDecode draw)

/-- DECODE_IN_PLACE (R109): the decoded bytes over the front of the input buffer; on failure the buffer's content is
free (U4). -/
def execDecodeInPlace (e : Bytes) (s : State) : Host.Outcome State Fault Refusal :=
  match decodedBody e with
  | .ok d => .next (s.finish (.inPlace (some d) (splice e 0 d)))
  | .raise _ => .next (s.drawFree.finish (.inPlace none (freeBuffer s.freeDraws e.length)))
  | .refuse why => .refused why

/-- FRAME(p) (R83): the bytes of ENCODE_FRAME, delimiter included. -/
def execFrameOf (p : Bytes) (s : State) : Host.Outcome State Fault Refusal :=
  .next (s.finish (.bytes (encodedFrame p)))

end Sys2Proof.Machine
end

