-- ==== Sys2Proof/Machine/Layout.lean ====
section
/-! DEFINITION. The packet and header layout rows (spec/30_encoding.md R73 to R78). They are encodings, not operations
of the block: the meaning of such a row is what its bits stand for, delivered as the result; no register changes
(log entry 7). -/

namespace Sys2Proof.Machine

/-- PACKET (R73, R54). DESIGN CHOICE (log entry 7): issued whole with an id or a payload whose length its header field
cannot hold or calls invalid (R74 to R76), the row delivers the fields all the same. -/
def execPacket (f : PacketFields) (s : State) : Host.Outcome State Fault Refusal := .next (s.finish (.packet f))

/-- HEADER.B0 (R74). -/
def execHeaderB0 (dlLow : BitVec 8) (s : State) : Host.Outcome State Fault Refusal :=
  .next (s.finish (.headerB0 dlLow))

/-- HEADER.B1 (R75): the type code stands for a Message Type (R79). -/
def execHeaderB1 (offset internal : Bool) (typeCode : BitVec 4) (dlHigh : BitVec 2) (s : State) :
    Host.Outcome State Fault Refusal :=
  .next (s.finish (.headerB1 offset internal (msgTypeOfCode typeCode) dlHigh))

/-- HEADER.B2 (R76). -/
def execHeaderB2 (acknum : BitVec 3) (response : Bool) (idLength : BitVec 4) (s : State) :
    Host.Outcome State Fault Refusal :=
  .next (s.finish (.headerB2 acknum response idLength))

/-- CHECKSUM.FIELD (R78). -/
def execChecksumField (c : Word16) (s : State) : Host.Outcome State Fault Refusal :=
  .next (s.finish (.number c.toNat))

end Sys2Proof.Machine
end

