-- ==== Sys2Proof/Machine/Parser.lean ====
section
/-! DEFINITION. The header parser: field getters, Message Type, Message Identity, packet views
(spec/41_header_parser.md). Every operation is a pure function of a view; a view shorter than the rule requires is
refused (U5). -/

namespace Sys2Proof.Machine

/-- MSG_ID (R141): length first, then content (D27). -/
def msgIdView (p : Bytes) : Ret Bytes :=
  needLength p 3 <|
    if (viewIdLength p).toNat = 0 then .raise .invalidMessageIdLength
    else needLength p (3 + (viewIdLength p).toNat) <|
      match identity? (viewMsgId p) with
      | none => .raise .invalidMessageId
      | some s => .ok s

/-- PAYLOAD (R142): the errors of MSG_ID in the same order, then the bytes after the id. -/
def payloadView (p : Bytes) : Ret Bytes :=
  needLength p 3 <|
    if (viewIdLength p).toNat = 0 then .raise .invalidMessageIdLength
    else needLength p (checksumIndex p) <|
      match identity? (viewMsgId p) with
      | none => .raise .invalidMessageId
      | some _ => .ok (viewPayload p)

/-- GET_DATA_LENGTH (R130). -/
def execGetDataLength (p : Bytes) (s : State) : Host.Outcome State Fault Refusal :=
  deliver (fun v : BitVec 10 => .number v.toNat) (needLength p 2 (.ok (viewDataLength p))) s

/-- GET_OFFSET (R131). -/
def execGetOffset (p : Bytes) (s : State) : Host.Outcome State Fault Refusal :=
  deliver .flag (needLength p 2 (.ok (viewOffset p))) s

/-- GET_TYPE (R132): "unknown codes preserved losslessly". -/
def execGetType (p : Bytes) (s : State) : Host.Outcome State Fault Refusal :=
  deliver .msgType (needLength p 2 (.ok (msgTypeOfCode (viewTypeCode p)))) s

/-- GET_INTERNAL (R133). -/
def execGetInternal (p : Bytes) (s : State) : Host.Outcome State Fault Refusal :=
  deliver .flag (needLength p 2 (.ok (viewInternal p))) s

/-- GET_ID_LENGTH (R134): 0 is returned as 0. -/
def execGetIdLength (p : Bytes) (s : State) : Host.Outcome State Fault Refusal :=
  deliver (fun v : BitVec 4 => .number v.toNat) (needLength p 3 (.ok (viewIdLength p))) s

/-- GET_RESPONSE (R135). -/
def execGetResponse (p : Bytes) (s : State) : Host.Outcome State Fault Refusal :=
  deliver .flag (needLength p 3 (.ok (viewResponse p))) s

/-- GET_ACKNUM (R136). -/
def execGetAcknum (p : Bytes) (s : State) : Host.Outcome State Fault Refusal :=
  deliver (fun v : BitVec 3 => .number v.toNat) (needLength p 3 (.ok (viewAcknum p))) s

/-- TYPE_FROM_CODE (R137): total. -/
def execTypeFromCode (c : BitVec 4) (s : State) : Host.Outcome State Fault Refusal :=
  .next (s.finish (.msgType (msgTypeOfCode c)))

/-- TYPE_TO_CODE (R138): returns the code as a number, whatever it is (U7). -/
def execTypeToCode (t : MsgType) (s : State) : Host.Outcome State Fault Refusal :=
  .next (s.finish (.number (msgTypeCode t)))

/-- TYPE_SIZE (R139). -/
def execTypeSize (t : MsgType) (s : State) : Host.Outcome State Fault Refusal :=
  .next (s.finish (.number (msgTypeSize t)))

/-- TYPE_ARRAY_SIZE (R139). -/
def execTypeArraySize (t : MsgType) (n : Nat) (s : State) : Host.Outcome State Fault Refusal :=
  .next (s.finish (.number (n * msgTypeSize t)))

/-- MSG_ID_NEW (R140). -/
def execMsgIdNew (p : Bytes) (s : State) : Host.Outcome State Fault Refusal :=
  .next (s.finish (.identity (identity? p)))

/-- MSG_ID (R141). -/
def execMsgId (p : Bytes) (s : State) : Host.Outcome State Fault Refusal := deliver .bytes (msgIdView p) s

/-- PAYLOAD (R142). -/
def execPayload (p : Bytes) (s : State) : Host.Outcome State Fault Refusal := deliver .bytes (payloadView p) s

/-- CHECKSUM (R143): reads the stored checksum; `id_length = 0` is no error here (D27). -/
def execChecksum (p : Bytes) (s : State) : Host.Outcome State Fault Refusal :=
  deliver (fun c : Word16 => .number c.toNat)
    (needLength p 3 (needLength p (viewWireSize p) (.ok (viewChecksum p)))) s

/-- WIRE_SIZE (R144). -/
def execWireSize (p : Bytes) (s : State) : Host.Outcome State Fault Refusal :=
  deliver .number (needLength p 3 (.ok (viewWireSize p))) s

end Sys2Proof.Machine
end

