-- ==== Sys2Proof/Machine/Decoder.lean ====
section
/-! DEFINITION. The frame-decoder finite-state machine (spec/43_decoder_fsm.md) with its online de-framer UNSTUFF
(spec/40_framing.md R110 to R112): the micro-operations FEED, UNSTUFF and RESET_FSM, one rule per state, DECODE as a
whole, and one meaning per dispatch row (R84). -/

namespace Sys2Proof.Machine

/-! ### UNSTUFF (R110 to R112) -/

/-- UNSTUFF, the default (R111). -/
def unstuffDefault (b : Byte) (s : State) : State × Byte :=
  if 1 < s.frameOffset.toNat then (s.setFrameOffset (s.frameOffset - 1), b)
  else (s.setFrameOffset b, 0#8)

/-- UNSTUFF under FF_BLOCK_EXCEPTION (R112): `none` is NOTHING. -/
def unstuffException (b : Byte) (s : State) : State × Option Byte :=
  if 1 < s.frameOffset.toNat then (s.setFrameOffset (s.frameOffset - 1), some b)
  else ((s.setFrameOffset b).setPrevCodeFf (isFfCode b), if s.prevCodeFf then none else some 0#8)

/-- UNSTUFF, the variant the configuration selects (R6, R110). -/
def unstuff (b : Byte) (s : State) : State × Option Byte :=
  if s.cfg.ffBlockException then unstuffException b s
  else ((unstuffDefault b s).1, some (unstuffDefault b s).2)

/-! ### FEED (R196) -/

/-- FEED: `none` is InsufficientBufferSize, which leaves everything as it is. -/
def feed (x : Byte) (s : State) : Option State := if bufferFull s then none else some (s.store x)

/-- `FEED(x)?`: when FEED raises, the DECODE ends there with that error. -/
def onFeed (x : Byte) (s : State) (rest : State → State × DecodeOutcome) : State × DecodeOutcome :=
  match feed x s with
  | none => (s, .error .insufficientBufferSize)
  | some s' => rest s'

/-! ### One rule per state (R183 to R195); `x` is the reconstructed byte -/

/-- State FrameOffset (R183): `x` is neither stored nor looked at. -/
def inFrameOffset (_x : Byte) (s : State) : State × DecodeOutcome := (s.goto .headerB0, .none)

/-- State HeaderB0 (R184). -/
def inHeaderB0 (x : Byte) (s : State) : State × DecodeOutcome :=
  onFeed x s fun s => ((s.latchLengthLow x).goto .headerB1, .none)

/-- State HeaderB1 (R185). -/
def inHeaderB1 (x : Byte) (s : State) : State × DecodeOutcome :=
  onFeed x s fun s => ((s.latchLengthHigh x).goto .headerB2, .none)

/-- State HeaderB2 (R186). -/
def inHeaderB2 (x : Byte) (s : State) : State × DecodeOutcome :=
  onFeed x s fun s => ((s.latchIdLength x).goto .msgId, .none)

/-- Payload when there is one, else CrcB0 (R188, R191). -/
def payloadOrCrc (s : State) : FsmState := if 0 < s.dataLength.toNat then .payload else .crcB0

/-- The successor of MsgId once the id is complete (R188). -/
def afterId (s : State) : FsmState := if s.offsetFlag then .offsetB0 else payloadOrCrc s

/-- R188: the choice of successor, after R187's count. -/
def chooseAfterId (s : State) : State × DecodeOutcome :=
  (if s.idLength.toNat ≤ s.idCount.toNat then s.goto (afterId s) else s, .none)

/-- State MsgId (R187, R188). -/
def inMsgId (x : Byte) (s : State) : State × DecodeOutcome := onFeed x s fun s => chooseAfterId s.countId

/-- State OffsetB0 (R190): the byte is dropped. -/
def inOffsetB0 (_x : Byte) (s : State) : State × DecodeOutcome := (s.goto .offsetB1, .none)

/-- State OffsetB1 (R191): the byte is dropped. -/
def inOffsetB1 (_x : Byte) (s : State) : State × DecodeOutcome := (s.goto (payloadOrCrc s), .none)

/-- R192: on to CrcB0 once the payload is complete. -/
def chooseAfterPayload (s : State) : State × DecodeOutcome :=
  (if s.dataLength.toNat ≤ s.payloadCount.toNat then s.goto .crcB0 else s, .none)

/-- State Payload (R192). -/
def inPayload (x : Byte) (s : State) : State × DecodeOutcome :=
  onFeed x s fun s => chooseAfterPayload s.countPayload

/-- State CrcB0 (R193). -/
def inCrcB0 (x : Byte) (s : State) : State × DecodeOutcome := onFeed x s fun s => (s.goto .crcB1, .none)

/-- Frame completion (R195): VALIDATE the span, RESET_FSM in both cases, move one counter. -/
def complete (s : State) : State × DecodeOutcome :=
  match validate s.cfg.rejectUnknownType (s.span s.cursor) with
  | none => (s.resetFsm.countValid, .packet s.cursor (s.span s.cursor))
  | some e => (s.resetFsm.countInvalid, .error e)

/-- State CrcB1 (R194, R195). -/
def inCrcB1 (x : Byte) (s : State) : State × DecodeOutcome := onFeed x s complete

/-- The rule of a state (R180, steps 3 and 4). -/
def inState (st : FsmState) : Byte → State → State × DecodeOutcome :=
  match st with
  | .frameOffset => inFrameOffset
  | .headerB0 => inHeaderB0
  | .headerB1 => inHeaderB1
  | .headerB2 => inHeaderB2
  | .msgId => inMsgId
  | .offsetB0 => inOffsetB0
  | .offsetB1 => inOffsetB1
  | .payload => inPayload
  | .crcB0 => inCrcB0
  | .crcB1 => inCrcB1

/-! ### DECODE (R180) -/

/-- Step 2 and on: UNSTUFF, then the rule, unless UNSTUFF hands on nothing (R180, R197). -/
def afterUnstuff (rule : Byte → State → State × DecodeOutcome) (b : Byte) (s : State) : State × DecodeOutcome :=
  match unstuff b s with
  | (s', none) => (s', .none)
  | (s', some x) => rule x s'

/-- DECODE of the delimiter (R189). -/
def decodeDelimiter (s : State) : State × DecodeOutcome := (s.resetFsm, .none)

/-- DECODE of one wire byte (R180): "the class test comes first, always". -/
def decodeByte (b : Byte) (s : State) : State × DecodeOutcome :=
  if b = delimiter then decodeDelimiter s else afterUnstuff (inState s.fsm) b s

/-- DECODE of a byte string, one whole DECODE per byte in order, with the outcomes that are not NONE (R83). -/
def decodeBytes : Bytes → State → State × List DecodeOutcome
  | [], s => (s, [])
  | b :: bs, s =>
    let r := decodeByte b s
    let t := decodeBytes bs (finishOutcome r)
    (t.1, if r.2 = .none then t.2 else r.2 :: t.2)

/-! ### Which dispatch row a DECODE is (R84) -/

/-- The row of a state (R84). -/
def stateRow (st : FsmState) (b : Byte) : Instr :=
  match st with
  | .frameOffset => .decodeFrameOffset b
  | .headerB0 => .decodeHeaderB0 b
  | .headerB1 => .decodeHeaderB1 b
  | .headerB2 => .decodeHeaderB2 b
  | .msgId => .decodeMsgId b
  | .offsetB0 => .decodeOffsetB0 b
  | .offsetB1 => .decodeOffsetB1 b
  | .payload => .decodePayload b
  | .crcB0 => .decodeCrcB0 b
  | .crcB1 => .decodeCrcB1 b

/-- R197: the byte is consumed as a code byte and nothing is handed on. Never in FrameOffset. -/
def codeAfterFfSelected (s : State) : Bool := s.fsm != .frameOffset && skipsImpliedZero s

/-- R196: a storing state with the buffer full. UNSTUFF comes before FEED (R180), so R197 goes first. -/
def fullSelected (s : State) : Bool := storingState s.fsm && bufferFull s && !codeAfterFfSelected s

/-- The dispatch row that DECODE of `b` is in state `s`, by the priorities of R84. -/
def dispatchOf (b : Byte) (s : State) : Instr :=
  if b = delimiter then .decodeDelim
  else if codeAfterFfSelected s then .decodeCodeAfterFf b
  else if fullSelected s then .decodeFull b
  else stateRow s.fsm b

/-- A non-delimiter dispatch row: its byte is not the delimiter, the machine selects it, and it runs (log entry 8). -/
def runRow (b : Byte) (selected : Bool) (rule : Byte → State → State × DecodeOutcome) (s : State) :
    Host.Outcome State Fault Refusal :=
  if b = delimiter then .refused .delimiterOperand
  else if selected then .next (finishOutcome (afterUnstuff rule b s))
  else .refused .notSelected

/-! ### Meanings of the dispatch rows -/

/-- DECODE.DELIM (R189). -/
def execDecodeDelim (s : State) : Host.Outcome State Fault Refusal := .next (finishOutcome (decodeDelimiter s))

/-- DECODE.FrameOffset (R183). -/
def execDecodeFrameOffset (b : Byte) (s : State) : Host.Outcome State Fault Refusal :=
  runRow b (s.fsm == .frameOffset) inFrameOffset s

/-- DECODE.HeaderB0 (R184). -/
def execDecodeHeaderB0 (b : Byte) (s : State) : Host.Outcome State Fault Refusal :=
  runRow b (s.fsm == .headerB0) inHeaderB0 s

/-- DECODE.HeaderB1 (R185). -/
def execDecodeHeaderB1 (b : Byte) (s : State) : Host.Outcome State Fault Refusal :=
  runRow b (s.fsm == .headerB1) inHeaderB1 s

/-- DECODE.HeaderB2 (R186). -/
def execDecodeHeaderB2 (b : Byte) (s : State) : Host.Outcome State Fault Refusal :=
  runRow b (s.fsm == .headerB2) inHeaderB2 s

/-- DECODE.MsgId (R187, R188). -/
def execDecodeMsgId (b : Byte) (s : State) : Host.Outcome State Fault Refusal :=
  runRow b (s.fsm == .msgId) inMsgId s

/-- DECODE.OffsetB0 (R190). -/
def execDecodeOffsetB0 (b : Byte) (s : State) : Host.Outcome State Fault Refusal :=
  runRow b (s.fsm == .offsetB0) inOffsetB0 s

/-- DECODE.OffsetB1 (R191). -/
def execDecodeOffsetB1 (b : Byte) (s : State) : Host.Outcome State Fault Refusal :=
  runRow b (s.fsm == .offsetB1) inOffsetB1 s

/-- DECODE.Payload (R192). -/
def execDecodePayload (b : Byte) (s : State) : Host.Outcome State Fault Refusal :=
  runRow b (s.fsm == .payload) inPayload s

/-- DECODE.CrcB0 (R193). -/
def execDecodeCrcB0 (b : Byte) (s : State) : Host.Outcome State Fault Refusal :=
  runRow b (s.fsm == .crcB0) inCrcB0 s

/-- DECODE.CrcB1 (R194, R195). -/
def execDecodeCrcB1 (b : Byte) (s : State) : Host.Outcome State Fault Refusal :=
  runRow b (s.fsm == .crcB1) inCrcB1 s

/-- What DECODE.CODE_AFTER_FF does with a byte handed on; UNSTUFF hands none on when the row is selected (R197). -/
def afterFfRule (_x : Byte) (s : State) : State × DecodeOutcome := (s, .none)

/-- DECODE.CODE_AFTER_FF (R197): UNSTUFF's writes, outcome NONE. -/
def execDecodeCodeAfterFf (b : Byte) (s : State) : Host.Outcome State Fault Refusal :=
  runRow b (codeAfterFfSelected s) afterFfRule s

/-- What DECODE.FULL does with the byte handed on: FEED raises (R196). -/
def fullRule (_x : Byte) (s : State) : State × DecodeOutcome := (s, .error .insufficientBufferSize)

/-- DECODE.FULL (R196, R251): UNSTUFF's writes, outcome ERROR(InsufficientBufferSize). -/
def execDecodeFull (b : Byte) (s : State) : Host.Outcome State Fault Refusal :=
  runRow b (fullSelected s) fullRule s

/-! ### Meanings of the internal micro-operations (R70). Alone they leave the outcome ports as they are (log entry 6). -/

/-- FEED (R196). -/
def execFeed (x : Byte) (s : State) : Host.Outcome State Fault Refusal :=
  match feed x s with
  | none => .next (s.raiseError .insufficientBufferSize)
  | some s' => .next (s'.finish .ok)

/-- RESET_FSM (R199). -/
def execResetFsm (s : State) : Host.Outcome State Fault Refusal := .next (s.resetFsm.finish .none)

/-- UNSTUFF (R111), the variant of FF_BLOCK_EXCEPTION = false (log entry 9). -/
def execUnstuff (b : Byte) (s : State) : Host.Outcome State Fault Refusal :=
  if b = delimiter then .refused .delimiterOperand
  else if s.cfg.ffBlockException then .refused .variantNotConfigured
  else .next ((unstuffDefault b s).1.finish (.reconstructed (some (unstuffDefault b s).2)))

/-- UNSTUFF.FF (R112), the variant of FF_BLOCK_EXCEPTION = true (log entry 9). -/
def execUnstuffFf (b : Byte) (s : State) : Host.Outcome State Fault Refusal :=
  if b = delimiter then .refused .delimiterOperand
  else if s.cfg.ffBlockException then
    .next ((unstuffException b s).1.finish (.reconstructed (unstuffException b s).2))
  else .refused .variantNotConfigured

end Sys2Proof.Machine
end

