-- ==== Sys2Proof/Machine/Port.lean ====
section
/-! DEFINITION. The operations of the block at its ports: NEW, DECODE, RESET, IDLE, COUNT, INVALID_COUNT
(spec/43_decoder_fsm.md, spec/10_state.md R35), and the output ports of R35 as functions of the state. -/

namespace Sys2Proof.Machine

/-- NEW (R181): with no configuration it is the hard reset `rst` (R35), which keeps the elaboration parameters. -/
def execNew (c : Option Config) (s : State) : Host.Outcome State Fault Refusal :=
  .next (s.renew (c.getD s.cfg)).finishQuiet

/-- DECODE (R180). -/
def execDecode (b : Byte) (s : State) : Host.Outcome State Fault Refusal := .next (finishOutcome (decodeByte b s))

/-- RESET (R182): RESET_FSM, no outcome. -/
def execReset (s : State) : Host.Outcome State Fault Refusal := .next s.resetFsm.finishQuiet

/-- IDLE (R35): "no operation this cycle; no state changes" (table). -/
def execIdle (s : State) : Host.Outcome State Fault Refusal := .next s

/-- COUNT (R200): a pure read. -/
def execCount (s : State) : Host.Outcome State Fault Refusal := .next (s.finish (.number s.validPktCount))

/-- INVALID_COUNT (R201): a pure read. -/
def execInvalidCount (s : State) : Host.Outcome State Fault Refusal := .next (s.finish (.number s.invalidPktCount))

/-! ### The output ports (R35)

They show the outcome of the last DECODE, the last one of a stream included, and NONE after NEW and RESET. What they
show after a cycle or a call that is no operation of the block, the spec does not say: they stay (log entry 6). -/

/-- The numeric code of an error (R240), for the port `out_err`. -/
def Err.code : Err → BitVec 4
  | .missingHeader => 1
  | .missingChecksum => 2
  | .incompletePayload => 3
  | .invalidDataLength => 4
  | .invalidMessageIdLength => 5
  | .invalidMessageId => 6
  | .unknownMessageType _ => 7
  | .invalidChecksum => 8
  | .framingDecodeError => 9
  | .insufficientBufferSize => 10

/-- The information an error carries (R240), for the port `out_info`. -/
def Err.info : Err → BitVec 4
  | .unknownMessageType c => c
  | .missingHeader | .missingChecksum | .incompletePayload | .invalidDataLength | .invalidMessageIdLength
  | .invalidMessageId | .invalidChecksum | .framingDecodeError | .insufficientBufferSize => 0

/-- `out_kind` (R35). -/
def State.outKind (s : State) : BitVec 2 :=
  match s.portOutcome with
  | .none => OutKind.none.code
  | .packet _ _ => OutKind.packet.code
  | .error _ => OutKind.error.code

/-- `out_len` (R35): the span length, else 0. -/
def State.outLen (s : State) : BitVec 11 :=
  match s.portOutcome with
  | .packet n _ => BitVec.ofNat 11 n
  | _ => 0

/-- `out_err` (R35): the error code, else 0. -/
def State.outErr (s : State) : BitVec 4 :=
  match s.portOutcome with
  | .error e => e.code
  | _ => 0

/-- `out_info` (R35): the type code of UnknownMessageType, else 0. -/
def State.outInfo (s : State) : BitVec 4 :=
  match s.portOutcome with
  | .error e => e.info
  | _ => 0

/-- How many bytes of BUF the host may read: the span's length "after a DECODE whose outcome is `PACKET(n, ..)` and before
it issues the next DECODE or RESET", else none (R58). -/
def State.readable (s : State) : Nat :=
  match s.portOutcome with
  | .packet n _ => n
  | .none | .error _ => 0

/-- `rd_data` for a `rd_addr` (R35, R58): the host's read port of BUF; it has no side effect (R53). Outside the span
just received "no rule promises anything" (R58, R291, U6): a free value. DESIGN CHOICE (log entry 2): so is a read at an
address that BUF does not have, which a `rd_addr` of `ceil(log2 CAP)` bits can name and of which R35 says nothing. -/
def State.rdData (s : State) (rdAddr : Nat) : Byte :=
  if rdAddr < s.readable then s.bufByte rdAddr else Config.unpromisedRead s rdAddr

end Sys2Proof.Machine
end

