-- ==== Sys2Proof/Machine/Wire.lean ====
section
/-! DEFINITION. Bytes arriving on the wire (spec/30_encoding.md R71, R72, R83): FRAME, DELIM, FEED_STREAM. Each byte
is one DECODE; the model runs all of a row's DECODEs in one step (log entry 11). -/

namespace Sys2Proof.Machine

/-- One DECODE per byte of `bs`, in order; the result is the list of outcomes that are not NONE (R83). The outcome ports
show the last DECODE's outcome, and with no byte what they showed before (R35, log entries 6 and 11). -/
def streamOf (bs : Bytes) (s : State) : State := (decodeBytes bs s).1.finish (.outcomes (decodeBytes bs s).2)

/-- FEED_STREAM (R83). -/
def execFeedStream (bs : Bytes) (s : State) : Host.Outcome State Fault Refusal := .next (streamOf bs s)

/-- FRAME (R72): the body's bytes and one delimiter arrive. A malformed body is decoded byte by byte too (R113). -/
def execFrame (body : Bytes) (s : State) : Host.Outcome State Fault Refusal :=
  .next (streamOf (body ++ [delimiter]) s)

/-- DELIM (R71, R100): "whatever state the decoder is in, a delimiter puts it at the start of a frame". -/
def execDelim (s : State) : Host.Outcome State Fault Refusal := .next (finishOutcome (decodeByte delimiter s))

end Sys2Proof.Machine
end

