-- ==== Sys2Proof/Machine/Dispatch.lean ====
section
/-! DEFINITION. exec: one arm per constructor of Instr, each one direct call of that instruction's meaning. -/

namespace Sys2Proof.Machine

def exec (i : Instr) (s : State) : Host.Outcome State Fault Refusal :=
  match i with
  -- port (R35, R70)
  | .new c => Sys2Proof.Machine.execNew c s
  | .decode b => Sys2Proof.Machine.execDecode b s
  | .reset => Sys2Proof.Machine.execReset s
  | .idle => Sys2Proof.Machine.execIdle s
  -- read-port
  | .count => Sys2Proof.Machine.execCount s
  | .invalidCount => Sys2Proof.Machine.execInvalidCount s
  -- dispatch: DECODE as selected by the state and the byte (R84)
  | .decodeDelim => Sys2Proof.Machine.execDecodeDelim s
  | .decodeFrameOffset b => Sys2Proof.Machine.execDecodeFrameOffset b s
  | .decodeHeaderB0 b => Sys2Proof.Machine.execDecodeHeaderB0 b s
  | .decodeHeaderB1 b => Sys2Proof.Machine.execDecodeHeaderB1 b s
  | .decodeHeaderB2 b => Sys2Proof.Machine.execDecodeHeaderB2 b s
  | .decodeMsgId b => Sys2Proof.Machine.execDecodeMsgId b s
  | .decodeOffsetB0 b => Sys2Proof.Machine.execDecodeOffsetB0 b s
  | .decodeOffsetB1 b => Sys2Proof.Machine.execDecodeOffsetB1 b s
  | .decodePayload b => Sys2Proof.Machine.execDecodePayload b s
  | .decodeCrcB0 b => Sys2Proof.Machine.execDecodeCrcB0 b s
  | .decodeCrcB1 b => Sys2Proof.Machine.execDecodeCrcB1 b s
  | .decodeCodeAfterFf b => Sys2Proof.Machine.execDecodeCodeAfterFf b s
  | .decodeFull b => Sys2Proof.Machine.execDecodeFull b s
  -- internal
  | .feed x => Sys2Proof.Machine.execFeed x s
  | .resetFsm => Sys2Proof.Machine.execResetFsm s
  | .unstuff b => Sys2Proof.Machine.execUnstuff b s
  | .unstuffFf b => Sys2Proof.Machine.execUnstuffFf b s
  -- wire
  | .frame body => Sys2Proof.Machine.execFrame body s
  | .delim => Sys2Proof.Machine.execDelim s
  -- packet and header layout
  | .packet f => Sys2Proof.Machine.execPacket f s
  | .headerB0 dlLow => Sys2Proof.Machine.execHeaderB0 dlLow s
  | .headerB1 offset internal typeCode dlHigh => Sys2Proof.Machine.execHeaderB1 offset internal typeCode dlHigh s
  | .headerB2 acknum response idLength => Sys2Proof.Machine.execHeaderB2 acknum response idLength s
  | .checksumField c => Sys2Proof.Machine.execChecksumField c s
  -- type codes (R79)
  | .typeCallback => Sys2Proof.Machine.execTypeCallback s
  | .typeCustom => Sys2Proof.Machine.execTypeCustom s
  | .typeOffsetMetadata => Sys2Proof.Machine.execTypeOffsetMetadata s
  | .typeByte => Sys2Proof.Machine.execTypeByte s
  | .typeChar => Sys2Proof.Machine.execTypeChar s
  | .typeInt8 => Sys2Proof.Machine.execTypeInt8 s
  | .typeUInt8 => Sys2Proof.Machine.execTypeUInt8 s
  | .typeInt16 => Sys2Proof.Machine.execTypeInt16 s
  | .typeUInt16 => Sys2Proof.Machine.execTypeUInt16 s
  | .typeInt32 => Sys2Proof.Machine.execTypeInt32 s
  | .typeUInt32 => Sys2Proof.Machine.execTypeUInt32 s
  | .typeFloat32 => Sys2Proof.Machine.execTypeFloat32 s
  | .typeFloat64 => Sys2Proof.Machine.execTypeFloat64 s
  | .typeUnknown13 => Sys2Proof.Machine.execTypeUnknown13 s
  | .typeUnknown14 => Sys2Proof.Machine.execTypeUnknown14 s
  | .typeUnknown15 => Sys2Proof.Machine.execTypeUnknown15 s
  -- state codes (R21)
  | .stateFrameOffset => Sys2Proof.Machine.execStateFrameOffset s
  | .stateHeaderB0 => Sys2Proof.Machine.execStateHeaderB0 s
  | .stateHeaderB1 => Sys2Proof.Machine.execStateHeaderB1 s
  | .stateHeaderB2 => Sys2Proof.Machine.execStateHeaderB2 s
  | .stateMsgId => Sys2Proof.Machine.execStateMsgId s
  | .stateOffsetB0 => Sys2Proof.Machine.execStateOffsetB0 s
  | .stateOffsetB1 => Sys2Proof.Machine.execStateOffsetB1 s
  | .statePayload => Sys2Proof.Machine.execStatePayload s
  | .stateCrcB0 => Sys2Proof.Machine.execStateCrcB0 s
  | .stateCrcB1 => Sys2Proof.Machine.execStateCrcB1 s
  -- outcome codes (R9, R35)
  | .outNone => Sys2Proof.Machine.execOutNone s
  | .outPacket => Sys2Proof.Machine.execOutPacket s
  | .outError => Sys2Proof.Machine.execOutError s
  -- error codes (R240)
  | .errMissingHeader => Sys2Proof.Machine.execErrMissingHeader s
  | .errMissingChecksum => Sys2Proof.Machine.execErrMissingChecksum s
  | .errIncompletePayload => Sys2Proof.Machine.execErrIncompletePayload s
  | .errInvalidDataLength => Sys2Proof.Machine.execErrInvalidDataLength s
  | .errInvalidMessageIdLength => Sys2Proof.Machine.execErrInvalidMessageIdLength s
  | .errInvalidMessageId => Sys2Proof.Machine.execErrInvalidMessageId s
  | .errUnknownMessageType info => Sys2Proof.Machine.execErrUnknownMessageType info s
  | .errInvalidChecksum => Sys2Proof.Machine.execErrInvalidChecksum s
  | .errFramingDecodeError => Sys2Proof.Machine.execErrFramingDecodeError s
  | .errInsufficientBufferSize => Sys2Proof.Machine.execErrInsufficientBufferSize s
  -- functions: validator
  | .validate p => Sys2Proof.Machine.execValidate p s
  | .crc16 p c0 => Sys2Proof.Machine.execCrc16 p c0 s
  | .computeChecksum p => Sys2Proof.Machine.execComputeChecksum p s
  -- functions: header parser
  | .getDataLength p => Sys2Proof.Machine.execGetDataLength p s
  | .getOffset p => Sys2Proof.Machine.execGetOffset p s
  | .getType p => Sys2Proof.Machine.execGetType p s
  | .getInternal p => Sys2Proof.Machine.execGetInternal p s
  | .getIdLength p => Sys2Proof.Machine.execGetIdLength p s
  | .getResponse p => Sys2Proof.Machine.execGetResponse p s
  | .getAcknum p => Sys2Proof.Machine.execGetAcknum p s
  | .typeFromCode c => Sys2Proof.Machine.execTypeFromCode c s
  | .typeToCode t => Sys2Proof.Machine.execTypeToCode t s
  | .typeSize t => Sys2Proof.Machine.execTypeSize t s
  | .typeArraySize t n => Sys2Proof.Machine.execTypeArraySize t n s
  | .msgIdNew p => Sys2Proof.Machine.execMsgIdNew p s
  | .msgId p => Sys2Proof.Machine.execMsgId p s
  | .payload p => Sys2Proof.Machine.execPayload p s
  | .checksum p => Sys2Proof.Machine.execChecksum p s
  | .wireSize p => Sys2Proof.Machine.execWireSize p s
  -- functions: framing
  | .encodeFrame p => Sys2Proof.Machine.execEncodeFrame p s
  | .maxEncodedLen n => Sys2Proof.Machine.execMaxEncodedLen n s
  | .decodeBuf e => Sys2Proof.Machine.execDecodeBuf e s
  | .decodeInPlace e => Sys2Proof.Machine.execDecodeInPlace e s
  -- functions: packet builder
  | .newUnchecked p => Sys2Proof.Machine.execNewUnchecked p s
  | .setDataLength p v => Sys2Proof.Machine.execSetDataLength p v s
  | .setOffset p f => Sys2Proof.Machine.execSetOffset p f s
  | .setType p t => Sys2Proof.Machine.execSetType p t s
  | .setInternal p f => Sys2Proof.Machine.execSetInternal p f s
  | .setIdLength p v => Sys2Proof.Machine.execSetIdLength p v s
  | .setResponse p f => Sys2Proof.Machine.execSetResponse p f s
  | .setAcknum p v => Sys2Proof.Machine.execSetAcknum p v s
  | .setMsgId p d => Sys2Proof.Machine.execSetMsgId p d s
  | .setPayload p d => Sys2Proof.Machine.execSetPayload p d s
  | .setChecksum p c => Sys2Proof.Machine.execSetChecksum p c s
  | .pkt k => Sys2Proof.Machine.execPkt k s
  -- pseudo-operations (R83)
  | .feedStream bs => Sys2Proof.Machine.execFeedStream bs s
  | .frameOf p => Sys2Proof.Machine.execFrameOf p s

end Sys2Proof.Machine
end

