-- ==== Sys2Proof/Machine/Step.lean ====
section
/-! DEFINITION. One step: the block performs the next operation the host issues (R10, R56); with none issued the cycle
is IDLE (R35). A program comes to run from State.reset by being issued from outside the block (log entry 5). -/

namespace Sys2Proof.Machine

/-- One step. -/
def step (s : State) : Host.Outcome State Fault Refusal :=
  match s.pending with
  | [] => exec .idle s
  | q :: rest =>
    match fetch q with
    | .ok i => exec i (s.dequeue rest)
    | .error e => .refused (.undecodable e)

/-- The state whose next issued word is the opcode-table word `w` of `nbits` bits. A dispatch word holds the state
register's code (R84), so the register is set to it: the row is selected only there. -/
def State.withFetchWord (s : State) (nbits w : Nat) : State :=
  let t := s.selectFor (tableWord nbits w)
  { t with pending := .word (tableWord nbits w).1 (tableWord nbits w).2 :: t.pending }

end Sys2Proof.Machine
end

