-- ==== Sys2Proof/Safety.lean ====
section
/-! DEFINITION. What claims are stated in terms of: the invariants of spec/10_state.md R34, when an issued
instruction has a meaning, and single-bit corruption of a view. -/

namespace Sys2Proof.Machine

/-- Every working register is 0 (R34 item 1, R199). -/
def State.workingZero (s : State) : Prop :=
  s.frameOffset = 0 ∧ s.cursor = 0 ∧ s.dataLength = 0 ∧ s.offsetFlag = false ∧ s.idLength = 0 ∧ s.idCount = 0 ∧
    s.payloadCount = 0 ∧ s.prevCodeFf = false

/-- `max(id_length, 1)`: how many id bytes the FSM takes (R34, R81). -/
def State.idBytes (s : State) : Nat := max s.idLength.toNat 1

/-- Where in the frame the machine is: R34 item 4, and that a register not yet reached in this frame is still 0
(R184: "The high two bits keep the 0 that RESET_FSM gave them"). -/
def State.inPlace (s : State) : Prop :=
  match s.fsm with
  | .frameOffset => s.workingZero
  | .headerB0 => s.cursor = 0 ∧ s.dataLength = 0 ∧ s.offsetFlag = false ∧ s.idLength = 0 ∧ s.idCount = 0 ∧ s.payloadCount = 0
  | .headerB1 => s.cursor = 1 ∧ s.dataLength.toNat < 256 ∧ s.offsetFlag = false ∧ s.idLength = 0 ∧ s.idCount = 0 ∧ s.payloadCount = 0
  | .headerB2 => s.cursor = 2 ∧ s.idLength = 0 ∧ s.idCount = 0 ∧ s.payloadCount = 0
  | .msgId => s.cursor = 3 + s.idCount.toNat ∧ s.idCount.toNat < s.idBytes ∧ s.payloadCount = 0
  | .offsetB0 | .offsetB1 =>
    s.cursor = 3 + s.idCount.toNat ∧ s.idCount.toNat = s.idBytes ∧ s.offsetFlag = true ∧ s.payloadCount = 0
  | .payload =>
    s.cursor = 3 + s.idCount.toNat + s.payloadCount.toNat ∧ s.idCount.toNat = s.idBytes ∧
      s.payloadCount.toNat < s.dataLength.toNat
  | .crcB0 =>
    s.cursor = 3 + s.idCount.toNat + s.payloadCount.toNat ∧ s.idCount.toNat = s.idBytes ∧
      s.payloadCount.toNat = s.dataLength.toNat
  | .crcB1 =>
    s.cursor = 4 + s.idCount.toNat + s.payloadCount.toNat ∧ s.idCount.toNat = s.idBytes ∧
      s.payloadCount.toNat = s.dataLength.toNat

/-- The latched header fields agree with the header bytes in BUF (R34 item 6). -/
def State.headerAgrees (s : State) : Prop :=
  (1 ≤ s.cursor → s.dataLength.extractLsb' 0 8 = s.bufByte 0) ∧
    (2 ≤ s.cursor → s.dataLength = dataLengthOf (s.bufByte 0) (s.bufByte 1) ∧ s.offsetFlag = offsetOf (s.bufByte 1)) ∧
    (3 ≤ s.cursor → s.idLength = idLengthOf (s.bufByte 2))

/-- The invariant of R34, with the bounds R20 and R23 to R31 give the registers and the canonical form of BUF. -/
structure Inv (s : State) : Prop where
  /-- R34 items 1 and 4. -/
  place : s.inPlace
  /-- R34 item 2. -/
  counting : s.fsm ≠ .frameOffset → 1 ≤ s.frameOffset.toNat
  /-- R34 item 3. -/
  cursor_le : s.cursor ≤ s.cfg.cap
  /-- R34 item 6. -/
  header : s.headerAgrees
  /-- R32: `BUF[0..cursor-1]` are the bytes stored for the current frame. -/
  written : ∀ a, a < s.cursor → (Memory.read? s.buf a).isSome
  /-- R32: BUF has the addresses 0 to `CAP - 1`. -/
  inside : ∀ a, (Memory.read? s.buf a).isSome → a < s.cfg.cap
  /-- The canonical form of the memory list. -/
  canonical : Memory.wf s.buf = true
  /-- R30. -/
  valid_le : s.validPktCount ≤ counterMax s.cfg
  /-- R31. -/
  invalid_le : s.invalidPktCount ≤ counterMax s.cfg
  /-- R29: without FF_BLOCK_EXCEPTION the register does not exist; the model holds it at 0. -/
  noFfFlag : s.cfg.ffBlockException = false → s.prevCodeFf = false

/-- The three micro-operations that are only steps inside a DECODE (R70 "internal to DECODE"): run alone they leave
the machine between two rules, so the invariants "between operations" of R34 do not speak of them. -/
def insideDecode : Instr → Bool
  | .feed _ | .unstuff _ | .unstuffFf _ => true
  | _ => false

/-- Something the host can issue between operations (R70, R34). -/
def Issue.betweenOperations : Issue → Bool
  | .word _ _ => true
  | .op i => !insideDecode i

/-- Nothing pending runs a micro-operation alone. -/
def State.hostOperations (s : State) : Prop := ∀ q ∈ s.pending, q.betweenOperations = true

/-- Whether the machine's state selects the row: the dispatch rows by R84, the UNSTUFF variants by FF_BLOCK_EXCEPTION. -/
def selected : Instr → State → Bool
  | .decodeFrameOffset _, s => s.fsm == .frameOffset
  | .decodeHeaderB0 _, s => s.fsm == .headerB0
  | .decodeHeaderB1 _, s => s.fsm == .headerB1
  | .decodeHeaderB2 _, s => s.fsm == .headerB2
  | .decodeMsgId _, s => s.fsm == .msgId
  | .decodeOffsetB0 _, s => s.fsm == .offsetB0
  | .decodeOffsetB1 _, s => s.fsm == .offsetB1
  | .decodePayload _, s => s.fsm == .payload
  | .decodeCrcB0 _, s => s.fsm == .crcB0
  | .decodeCrcB1 _, s => s.fsm == .crcB1
  | .decodeCodeAfterFf _, s => codeAfterFfSelected s
  | .decodeFull _, s => fullSelected s
  | .unstuff _, s => !s.cfg.ffBlockException
  | .unstuffFf _, s => s.cfg.ffBlockException
  | _, _ => true

/-- The rows that may move the decoder: every other row is a read, a pure function or a code. -/
def movesDecoder : Instr → Bool
  | .new _ | .decode _ | .reset | .decodeDelim | .decodeFrameOffset _ | .decodeHeaderB0 _ | .decodeHeaderB1 _
  | .decodeHeaderB2 _ | .decodeMsgId _ | .decodeOffsetB0 _ | .decodeOffsetB1 _ | .decodePayload _ | .decodeCrcB0 _
  | .decodeCrcB1 _ | .decodeCodeAfterFf _ | .decodeFull _ | .feed _ | .resetFsm | .unstuff _ | .unstuffFf _ | .frame _
  | .delim | .feedStream _ => true
  | _ => false

/-- One bit of one byte of a view flipped (R174). -/
def flipBit (p : Bytes) (i n : Nat) : Bytes := p.set i (byteAt p i ^^^ (1#8 <<< n))

/-- A bit of the header, id or payload that is not in `data_length` or `id_length` (R174). -/
def outsideLengths (i n : Nat) : Prop := i ≠ 0 ∧ (i = 1 → 2 ≤ n) ∧ (i = 2 → 4 ≤ n)

/-- UNSTUFF of R111 over a byte string, from a countdown: the reconstructed bytes in order. -/
def onlineBytes (s : State) : Bytes → List (Option Byte)
  | [] => []
  | b :: bs => (unstuff b s).2 :: onlineBytes (unstuff b s).1 bs

/-- No code byte is `0xFF` where a further block follows (R115). -/
def noFullInnerBlock : List Block → Bool
  | [] => true
  | [_] => true
  | b :: c :: rest => b.code != 0xFF#8 && noFullInnerBlock (c :: rest)

end Sys2Proof.Machine
end

