-- ==== Sys2Proof/Certificates/Slice0/Obligations.lean ====
section
/-! DEFINITION. The statements for the provers, grouped by the spec's files. In every statement a next state written
`{ s with ... }` says the frame as well: each register, each counter and each byte of BUF not named is as it was. -/

open Sys2Proof Sys2Proof.Machine

/-! ### Encoding -/

/-- R70 to R84, R21, R240: decoding what the encoder writes gives the instruction back, for every well-formed
instruction that has an encoding and every value of its operands. -/
def Obligations.DecodeOfEncode : Prop :=
  ∀ (i : Instr) (f : Format) (bs : Bytes), wellFormed i = true → encode i = some (f, bs) → decode f bs = .ok i

/-- The other direction: what the decoder accepts is well-formed, has an encoding in the same format, and a word in
which no bit is ignored by its row (every format but `port` and `dispatch`) is exactly that encoding. -/
def Obligations.DecodedWordsAreEncodings : Prop :=
  ∀ (f : Format) (bs : Bytes) (i : Instr), decode f bs = .ok i →
    wellFormed i = true ∧ ∃ bs', encode i = some (f, bs') ∧ decode f bs' = .ok i ∧
      (f ≠ .port → f ≠ .dispatch → bs' = bs)

/-- A few words whose fields are written out from the tables of 10_state.md R35, 30_encoding.md R75, R76, R78, R79, R84 and
60_exceptions.md R240. The spec gives the fields of the port, dispatch and error words and not their bytes: which byte
`in_byte` stands in, and `out_info` in bits 7:4, are the model's choice (log entry 10). -/
def Obligations.TableWordsDecode : Prop :=
  decode .port [0b010#8, 0xA3#8] = .ok (.decode 0xA3) ∧
  decode .port [0b011#8, 0x00#8] = .ok .reset ∧
  decode .port [0b101#8, 0x00#8] = .ok (.new none) ∧
  decode .dispatch [0x2A#8, 0x07#8] = .ok (.decodePayload 0x2A) ∧
  decode .dispatch [0x00#8, 0x07#8] = .ok .decodeDelim ∧
  decode .headerB1 [0b10110110#8] = .ok (.headerB1 true false 13 2) ∧
  decode .headerB2 [0b01100011#8] = .ok (.headerB2 3 false 3) ∧
  decode .checksumField [0xB8#8, 0xA3#8] = .ok (.checksumField 0xA3B8) ∧
  decode .typeCode [0x05#8] = .ok .typeInt8 ∧
  decode .stateCode [0x09#8] = .ok .stateCrcB1 ∧
  decode .outcomeCode [0x02#8] = .ok .outError ∧
  decode .errorCode [0xF7#8] = .ok (.errUnknownMessageType 15) ∧
  decode .wire [0x03#8, 0x11#8, 0x22#8, 0x02#8, 0x33#8, 0x00#8] = .ok (.frame [0x03, 0x11, 0x22, 0x02, 0x33])

/-! ### The step -/

/-- R10, R56: a step takes the next operation issued and runs it; a word runs as the instruction it decodes to, and is
refused by name when it decodes to none; with nothing issued nothing changes, nor by IDLE (R35, the table: "no state
changes"; that the result and the ports stay too is log entry 6). The queue is the model's own (log entry 5). -/
def Obligations.StepRunsTheIssuedOperation : Prop :=
  ∀ s : State,
    (s.pending = [] → step s = .next s) ∧ exec .idle s = .next s ∧
    (∀ f bs rest i, s.pending = .word f bs :: rest → decode f bs = .ok i → step s = exec i { s with pending := rest }) ∧
    (∀ f bs rest e, s.pending = .word f bs :: rest → decode f bs = .error e → step s = .refused (.undecodable e)) ∧
    (∀ i rest, s.pending = .op i :: rest → step s = exec i { s with pending := rest })

/-- Completion of every row: a well-formed instruction that the machine's state selects answers a next state. -/
def Obligations.WellFormedSelectedCompletes : Prop :=
  ∀ (i : Instr) (s : State), wellFormed i = true → selected i s = true → ∃ t, exec i s = .next t

/-- R84, R111, R112 (log entries 8, 9): where a DECODE row or an UNSTUFF variant stops: on the byte `0x00`, which is not
its operand, and in a state or configuration that does not select it. -/
def Obligations.UnselectedRowsAreRefused : Prop :=
  ∀ (b : Byte) (s : State),
    (∀ i ∈ [Instr.decodeFrameOffset b, .decodeHeaderB0 b, .decodeHeaderB1 b, .decodeHeaderB2 b, .decodeMsgId b,
        .decodeOffsetB0 b, .decodeOffsetB1 b, .decodePayload b, .decodeCrcB0 b, .decodeCrcB1 b,
        .decodeCodeAfterFf b, .decodeFull b],
      (b = delimiter → exec i s = .refused .delimiterOperand) ∧
      (b ≠ delimiter → selected i s = false → exec i s = .refused .notSelected)) ∧
    (∀ i ∈ [Instr.unstuff b, .unstuffFf b],
      (b = delimiter → exec i s = .refused .delimiterOperand) ∧
      (b ≠ delimiter → selected i s = false → exec i s = .refused .variantNotConfigured))

/-! ### Reset (10_state.md, 43_decoder_fsm.md, 70_reset_and_hazards.md) -/

/-- R181, R270: NEW from any state, as the hard reset (no configuration given, R35) and with a configuration.
That BUF is forgotten, and reads as new free values, is the model's reading of "content unspecified" (log entry 3); that
the outcome ports then show NONE is its choice (log entry 6). -/
def Obligations.NewResetsEverything : Prop :=
  ∀ (c : Option Config) (s : State), ∃ t, exec (.new c) s = .next t ∧
    t.cfg = c.getD s.cfg ∧ 5 ≤ t.cfg.cap ∧ t.fsm = .frameOffset ∧ t.workingZero ∧ t.validPktCount = 0 ∧
    t.invalidPktCount = 0 ∧ (∀ a, t.bufByte a = Config.uninitialised (s.bufEpoch + 1) a) ∧ t.result = .none ∧
    t.portOutcome = .none ∧
    t.freeDraws = s.freeDraws ∧ t.pending = s.pending

/-- R182, R199: RESET is RESET_FSM: `state` and every working register; not the counters, not BUF. RESET's outcome is
none (R182), which the ports then show. -/
def Obligations.ResetZeroesTheWorkingRegisters : Prop :=
  ∀ s : State,
    exec .reset s = .next { s with
      fsm := .frameOffset, frameOffset := 0, cursor := 0, dataLength := 0, offsetFlag := false, idLength := 0,
      idCount := 0, payloadCount := 0, prevCodeFf := false, result := .none, portOutcome := .none } ∧
    exec .resetFsm s = .next { s with
      fsm := .frameOffset, frameOffset := 0, cursor := 0, dataLength := 0, offsetFlag := false, idLength := 0,
      idCount := 0, payloadCount := 0, prevCodeFf := false, result := .none }

/-- R200, R201: COUNT and INVALID_COUNT are pure reads. -/
def Obligations.CounterReadsChangeNothing : Prop :=
  ∀ s : State,
    exec .count s = .next { s with result := .number s.validPktCount } ∧
    exec .invalidCount s = .next { s with result := .number s.invalidPktCount }

/-! ### DECODE (43_decoder_fsm.md)

In the row statements `u` and `x` are the state and the byte that UNSTUFF leaves and hands on; UnstuffCountsDown and
UnstuffUnderException say what they are, and FullBufferParks what a storing row does when the buffer is full. -/

/-- R189, R100: a delimiter, in any state: RESET_FSM and outcome NONE, as DECODE of `0x00`, as its dispatch row and as
the wire's DELIM. -/
def Obligations.DelimiterAborts : Prop :=
  ∀ (i : Instr), i = .decode delimiter ∨ i = .decodeDelim ∨ i = .delim → ∀ s : State,
    exec i s = .next { s with
      fsm := .frameOffset, frameOffset := 0, cursor := 0, dataLength := 0, offsetFlag := false, idLength := 0,
      idCount := 0, payloadCount := 0, prevCodeFf := false, result := .outcome .none, portOutcome := .none }

/-- R84, R180: every DECODE is the dispatch row that the byte and the state select, by the priorities of R84. -/
def Obligations.DecodeIsItsDispatchRow : Prop :=
  ∀ (b : Byte) (s : State),
    exec (.decode b) s = exec (dispatchOf b s) s ∧ (b ≠ delimiter → exec (.decode b) s = exec (stateRow s.fsm b) s)

/-- R111: UNSTUFF, the default variant, alone and as the step inside DECODE that the row statements name. -/
def Obligations.UnstuffCountsDown : Prop :=
  ∀ (b : Byte) (s : State), b ≠ delimiter → s.cfg.ffBlockException = false →
    exec (.unstuff b) s = .next
      (if 1 < s.frameOffset.toNat then
        { s with frameOffset := s.frameOffset - 1, result := .reconstructed (some b) }
      else { s with frameOffset := b, result := .reconstructed (some 0) }) ∧
    unstuff b s =
      (if 1 < s.frameOffset.toNat then ({ s with frameOffset := s.frameOffset - 1 }, some b)
      else ({ s with frameOffset := b }, some 0))

/-- R112: UNSTUFF under FF_BLOCK_EXCEPTION, alone and as the step inside DECODE that the row statements name. -/
def Obligations.UnstuffUnderException : Prop :=
  ∀ (b : Byte) (s : State), b ≠ delimiter → s.cfg.ffBlockException = true →
    exec (.unstuffFf b) s = .next
      (if 1 < s.frameOffset.toNat then
        { s with frameOffset := s.frameOffset - 1, result := .reconstructed (some b) }
      else
        { s with
          frameOffset := b, prevCodeFf := decide (b = 0xFF#8),
          result := .reconstructed (if s.prevCodeFf then none else some 0) }) ∧
    unstuff b s =
      (if 1 < s.frameOffset.toNat then ({ s with frameOffset := s.frameOffset - 1 }, some b)
      else
        ({ s with frameOffset := b, prevCodeFf := decide (b = 0xFF#8) }, if s.prevCodeFf then none else some 0))

/-- R196: FEED stores at `cursor` and moves it, or fails and changes nothing. -/
def Obligations.FeedStoresOrFails : Prop :=
  ∀ (x : Byte) (s : State),
    (s.cursor < s.cfg.cap →
      exec (.feed x) s =
        .next { s with buf := Memory.write s.buf s.cursor x, cursor := s.cursor + 1, result := .ok }) ∧
    (s.cfg.cap ≤ s.cursor → exec (.feed x) s = .next { s with result := .error .insufficientBufferSize })

/-- R183: state FrameOffset stores nothing and goes to HeaderB0; `x` is not looked at. -/
def Obligations.FrameOffsetRow : Prop :=
  ∀ (b x : Byte) (s u : State), b ≠ delimiter → s.fsm = .frameOffset → unstuff b s = (u, some x) →
    exec (.decodeFrameOffset b) s = .next { u with fsm := .headerB0, result := .outcome .none, portOutcome := .none }

/-- R184, R185, R186: the three header states store the byte and latch their fields. -/
def Obligations.HeaderRows : Prop :=
  ∀ (b x : Byte) (s u : State), b ≠ delimiter → unstuff b s = (u, some x) → s.cursor < s.cfg.cap →
    (s.fsm = .headerB0 → ∃ dl : BitVec 10, dl.toNat = s.dataLength.toNat / 256 * 256 + x.toNat ∧
      exec (.decodeHeaderB0 b) s = .next { u with
        buf := Memory.write s.buf s.cursor x, cursor := s.cursor + 1, dataLength := dl, fsm := .headerB1,
        result := .outcome .none, portOutcome := .none }) ∧
    (s.fsm = .headerB1 → ∃ dl : BitVec 10, dl.toNat = x.toNat % 4 * 256 + s.dataLength.toNat % 256 ∧
      exec (.decodeHeaderB1 b) s = .next { u with
        buf := Memory.write s.buf s.cursor x, cursor := s.cursor + 1, dataLength := dl,
        offsetFlag := decide (128 ≤ x.toNat), fsm := .headerB2, result := .outcome .none, portOutcome := .none }) ∧
    (s.fsm = .headerB2 → ∃ idl : BitVec 4, idl.toNat = x.toNat % 16 ∧
      exec (.decodeHeaderB2 b) s = .next { u with
        buf := Memory.write s.buf s.cursor x, cursor := s.cursor + 1, idLength := idl, idCount := 0, fsm := .msgId,
        result := .outcome .none, portOutcome := .none })

/-- R187, R188: state MsgId stores, counts, and chooses its successor. -/
def Obligations.MsgIdRow : Prop :=
  ∀ (b x : Byte) (s u : State), b ≠ delimiter → s.fsm = .msgId → unstuff b s = (u, some x) → s.cursor < s.cfg.cap →
    exec (.decodeMsgId b) s = .next { u with
      buf := Memory.write s.buf s.cursor x, cursor := s.cursor + 1, idCount := s.idCount + 1,
      fsm := if (s.idCount + 1).toNat < s.idLength.toNat then .msgId
        else if s.offsetFlag then .offsetB0
        else if 0 < s.dataLength.toNat then .payload else .crcB0,
      result := .outcome .none, portOutcome := .none }

/-- R190, R191: the two offset states drop the byte. -/
def Obligations.OffsetRows : Prop :=
  ∀ (b x : Byte) (s u : State), b ≠ delimiter → unstuff b s = (u, some x) →
    (s.fsm = .offsetB0 → exec (.decodeOffsetB0 b) s = .next { u with fsm := .offsetB1, result := .outcome .none, portOutcome := .none }) ∧
    (s.fsm = .offsetB1 → exec (.decodeOffsetB1 b) s =
      .next { u with fsm := if 0 < s.dataLength.toNat then .payload else .crcB0, result := .outcome .none, portOutcome := .none })

/-- R192, R193: the states Payload and CrcB0. -/
def Obligations.PayloadAndCrcB0Rows : Prop :=
  ∀ (b x : Byte) (s u : State), b ≠ delimiter → unstuff b s = (u, some x) → s.cursor < s.cfg.cap →
    (s.fsm = .payload → exec (.decodePayload b) s = .next { u with
      buf := Memory.write s.buf s.cursor x, cursor := s.cursor + 1, payloadCount := s.payloadCount + 1,
      fsm := if (s.payloadCount + 1).toNat < s.dataLength.toNat then .payload else .crcB0,
      result := .outcome .none, portOutcome := .none }) ∧
    (s.fsm = .crcB0 → exec (.decodeCrcB0 b) s = .next { u with
      buf := Memory.write s.buf s.cursor x, cursor := s.cursor + 1, fsm := .crcB1, result := .outcome .none, portOutcome := .none })

/-- R194, R195: frame completion. The span is validated, the working registers are zeroed in both cases, exactly one
counter takes a saturating step, and BUF keeps the span. -/
def Obligations.CompletionRow : Prop :=
  ∀ (b x : Byte) (s u : State) (span : Bytes), b ≠ delimiter → s.fsm = .crcB1 → unstuff b s = (u, some x) →
    s.cursor < s.cfg.cap →
    span.length = s.cursor + 1 → (∀ a, a < s.cursor → byteAt span a = s.bufByte a) → byteAt span s.cursor = x →
    (validate s.cfg.rejectUnknownType span = none →
      exec (.decodeCrcB1 b) s = .next { s with
        fsm := .frameOffset, frameOffset := 0, cursor := 0, dataLength := 0, offsetFlag := false, idLength := 0,
        idCount := 0, payloadCount := 0, prevCodeFf := false, buf := Memory.write s.buf s.cursor x,
        validPktCount := if s.validPktCount < 2 ^ s.cfg.cntW - 1 then s.validPktCount + 1 else s.validPktCount,
        result := .outcome (.packet (s.cursor + 1) span),
        portOutcome := .packet (s.cursor + 1) span }) ∧
    (∀ e, validate s.cfg.rejectUnknownType span = some e →
      exec (.decodeCrcB1 b) s = .next { s with
        fsm := .frameOffset, frameOffset := 0, cursor := 0, dataLength := 0, offsetFlag := false, idLength := 0,
        idCount := 0, payloadCount := 0, prevCodeFf := false, buf := Memory.write s.buf s.cursor x,
        invalidPktCount := if s.invalidPktCount < 2 ^ s.cfg.cntW - 1 then s.invalidPktCount + 1 else s.invalidPktCount,
        result := .outcome (.error e), portOutcome := .error e })

/-- R196, R251: in a storing state with the buffer full every DECODE reports InsufficientBufferSize; only what UNSTUFF
wrote changes. UNSTUFF goes first: where it hands nothing on (R197) there is no FEED (log entry 8). -/
def Obligations.FullBufferParks : Prop :=
  ∀ (b x : Byte) (s u : State), b ≠ delimiter → storingState s.fsm = true → s.cfg.cap ≤ s.cursor →
    unstuff b s = (u, some x) →
    ∀ i, i = .decode b ∨ i = .decodeFull b ∨ i = stateRow s.fsm b →
      exec i s = .next { u with
        result := .outcome (.error .insufficientBufferSize), portOutcome := .error .insufficientBufferSize }

/-- R197: after an `0xFF` block under FF_BLOCK_EXCEPTION the byte is only a code byte. -/
def Obligations.CodeByteAfterFullBlock : Prop :=
  ∀ (b : Byte) (s : State), b ≠ delimiter → s.cfg.ffBlockException = true → s.fsm ≠ .frameOffset →
    s.frameOffset.toNat ≤ 1 → s.prevCodeFf = true →
    ∀ i, i = .decode b ∨ i = .decodeCodeAfterFf b →
      exec i s = .next { s with frameOffset := b, prevCodeFf := decide (b = 0xFF#8), result := .outcome .none, portOutcome := .none }

/-- R83, R56: FEED_STREAM is one DECODE per byte, in order, and its result the outcomes that are not NONE; a FRAME on
the wire is its body and one delimiter (R72). The ports show what the last DECODE left there (R35). One step for the whole
row is the model's choice; so is that any bytes issued as a wire word run so, well-formed or not (R80, R113; log
entry 11). -/
def Obligations.StreamIsOneDecodePerByte : Prop :=
  ∀ s : State,
    exec (.feedStream []) s = .next { s with result := .outcomes [] } ∧
    (∀ b bs, ∃ t u o os, exec (.decode b) s = .next t ∧ t.result = .outcome o ∧
      exec (.feedStream bs) t = .next u ∧ u.result = .outcomes os ∧
      exec (.feedStream (b :: bs)) s = .next { u with result := .outcomes (if o = .none then os else o :: os) }) ∧
    (∀ body, ∃ u, exec (.frame body) s = .next u ∧ exec (.feedStream (body ++ [delimiter])) s = .next u) ∧
    (∀ bs, ∃ i t u, decode .wire bs = .ok i ∧ exec i s = .next t ∧ exec (.feedStream bs) s = .next u ∧
      t = { u with result := t.result })

/-! ### Frames over the whole table -/

/-- R20, R33, R58: a row that is a read, a pure function or a code changes no register, no counter and no byte of BUF,
and leaves what the host will issue and what the ports show; only the model's own result and count of free values may
change (log entries 4, 6). The host reads the received span as before, until the next DECODE or RESET (R58). -/
def Obligations.PureRowsChangeNothing : Prop :=
  ∀ (i : Instr) (s t : State), movesDecoder i = false → exec i s = .next t →
    t = { s with result := t.result, freeDraws := t.freeDraws } ∧ (∀ a, t.bufByte a = s.bufByte a) ∧
    (∀ a, a < s.readable → t.rdData a = s.rdData a)

/-- R30, R31, R257: no row but NEW lowers a counter or changes the configuration, none changes what is pending, and
outside streams a row moves each counter by at most one. -/
def Obligations.CountersNeverDecrease : Prop :=
  ∀ (i : Instr) (s t : State), exec i s = .next t →
    t.pending = s.pending ∧
    ((∀ c, i ≠ .new c) →
      t.cfg = s.cfg ∧ s.validPktCount ≤ t.validPktCount ∧ s.invalidPktCount ≤ t.invalidPktCount ∧
      ((∀ bs, i ≠ .feedStream bs ∧ i ≠ .frame bs) →
        t.validPktCount + t.invalidPktCount ≤ s.validPktCount + s.invalidPktCount + 1))

/-- R32, R60, R196, R83: BUF is written only at the cursor a DECODE starts from, and there only when the buffer has room.
For one row that is the index `cursor` of its state; for a stream, or the bytes of a frame on the wire, the cursors its
DECODEs start from. NEW aside. -/
def Obligations.StoresOnlyAtCursors : Prop :=
  ∀ (s t : State),
    (∀ i : Instr, (∀ c, i ≠ .new c) → (∀ bs, i ≠ .feedStream bs ∧ i ≠ .frame bs) → exec i s = .next t →
      ∀ a, (a ≠ s.cursor ∨ s.cfg.cap ≤ s.cursor) → t.bufByte a = s.bufByte a) ∧
    (∀ (i : Instr) (bs : Bytes), (i = .feedStream bs ∨ ∃ body, i = .frame body ∧ bs = body ++ [delimiter]) →
      exec i s = .next t →
      ∀ a, (∀ pre suf, bs = pre ++ suf → suf ≠ [] →
          (decodeBytes pre s).1.cursor ≠ a ∨ s.cfg.cap ≤ (decodeBytes pre s).1.cursor) →
        t.bufByte a = s.bufByte a)

/-! ### Invariants -/

/-- R34, R270, R181: what the reset state holds, and that the invariants hold in it. That no byte of BUF is listed is the
model's form of "unspecified" (log entry 3); the default configuration is the model's choice (log entry 1). -/
def Obligations.InvariantAtReset : Prop :=
  State.reset.fsm = .frameOffset ∧ State.reset.workingZero ∧ State.reset.validPktCount = 0 ∧
    State.reset.invalidPktCount = 0 ∧ (∀ a, Memory.read? State.reset.buf a = none) ∧ Inv State.reset ∧
    State.reset.hostOperations

/-- R34: every step keeps the invariants, whatever the host issues between operations, with every configuration. -/
def Obligations.StepKeepsInvariant : Prop :=
  ∀ s t : State, Inv s → s.hostOperations → step s = .next t → Inv t ∧ t.hostOperations

/-- R34 item 5, R173: in a state that keeps the invariants a completed span has length
`3 + max(id_length, 1) + data_length + 2`, the host then reads the span from BUF (R58), and the only errors out of a
DECODE are the four of R173 and R251. -/
def Obligations.DecoderOutcomes : Prop :=
  ∀ (b : Byte) (s t : State), Inv s → exec (.decode b) s = .next t →
    (∀ n bytes, t.result = .outcome (.packet n bytes) →
      n = bytes.length ∧ n = 3 + max s.idLength.toNat 1 + s.dataLength.toNat + 2 ∧ 6 ≤ n ∧ n ≤ 1043 ∧
      t.readable = n ∧ ∀ a, a < n → t.rdData a = byteAt bytes a) ∧
    (∀ e, t.result = .outcome (.error e) →
      (e = .invalidMessageIdLength ∧ s.idLength = 0) ∨ (e = .invalidChecksum ∧ s.idLength ≠ 0) ∨
      (∃ c, e = .unknownMessageType c ∧ 13 ≤ c.toNat ∧ s.cfg.rejectUnknownType = true ∧ s.idLength ≠ 0) ∨
      (e = .insufficientBufferSize ∧ s.cursor = s.cfg.cap))

/-! ### Layout and codes -/

/-- R73 to R79: a layout row delivers the fields its bits stand for. That an encoding is delivered as a result is the
model's choice (log entry 7), also for a packet whose id or payload does not fit its header; so is that bytes issued as a
packet word and no packet are handed to VALIDATE (R80, log entry 16). -/
def Obligations.LayoutRows : Prop :=
  ∀ s : State,
    (∀ f, exec (.packet f) s = .next { s with result := .packet f }) ∧
    (∀ v, exec (.headerB0 v) s = .next { s with result := .headerB0 v }) ∧
    (∀ o i c d, ∃ t, exec (.typeFromCode c) s = .next { s with result := .msgType t } ∧
      exec (.headerB1 o i c d) s = .next { s with result := .headerB1 o i t d }) ∧
    (∀ a r n, exec (.headerB2 a r n) s = .next { s with result := .headerB2 a r n }) ∧
    (∀ c, exec (.checksumField c) s = .next { s with result := .number c.toNat }) ∧
    (∀ p : Bytes, (p.length < 5 ∨ (byteAt p 2).toNat % 16 = 0 ∨
        p.length ≠ 5 + (byteAt p 2).toNat % 16 + ((byteAt p 1).toNat % 4 * 256 + (byteAt p 0).toNat)) →
      decode .packet p = .ok (.validate p))

/-- R79, R137, R138: the sixteen type codes, as rows and through TYPE_FROM_CODE and TYPE_TO_CODE. "The numbering by list order is the spec's reading" (R79, D15, log entry 19); that a
code delivers its type is the model's choice (log entry 7). -/
def Obligations.TypeCodeRows : Prop :=
  ∀ s : State, ∀ r ∈ [(Instr.typeCallback, MsgType.callback, 0), (.typeCustom, .custom, 1),
      (.typeOffsetMetadata, .offsetMetadata, 2), (.typeByte, .byte, 3), (.typeChar, .char, 4), (.typeInt8, .int8, 5),
      (.typeUInt8, .uint8, 6), (.typeInt16, .int16, 7), (.typeUInt16, .uint16, 8), (.typeInt32, .int32, 9),
      (.typeUInt32, .uint32, 10), (.typeFloat32, .float32, 11), (.typeFloat64, .float64, 12),
      (.typeUnknown13, .unknown 13, 13), (.typeUnknown14, .unknown 14, 14), (.typeUnknown15, .unknown 15, 15)],
    exec r.1 s = .next { s with result := .msgType r.2.1 } ∧
      exec (.typeFromCode (BitVec.ofNat 4 r.2.2)) s = .next { s with result := .msgType r.2.1 } ∧
      exec (.typeToCode r.2.1) s = .next { s with result := .number r.2.2 }

/-- R21: the ten state codes; "the binary encoding, for a hardware register, is the spec's own" (R21, D13). That a code
delivers its state is the model's choice (log entry 7). -/
def Obligations.StateCodeRows : Prop :=
  ∀ s : State, ∀ r ∈ [(Instr.stateFrameOffset, FsmState.frameOffset), (.stateHeaderB0, .headerB0),
      (.stateHeaderB1, .headerB1), (.stateHeaderB2, .headerB2), (.stateMsgId, .msgId), (.stateOffsetB0, .offsetB0),
      (.stateOffsetB1, .offsetB1), (.statePayload, .payload), (.stateCrcB0, .crcB0), (.stateCrcB1, .crcB1)],
    exec r.1 s = .next { s with result := .fsm r.2 } ∧
      encode r.1 = some (.stateCode, [r.2.code.setWidth 8]) ∧ fsmOfCode r.2.code = some r.2

/-- R35 (the spec's own binding, D13): the three outcome codes; every DECODE's outcome goes to the output ports, and what
they show for each outcome (log entries 6, 7); ErrorCodeRows says what the code and the info of an error are. -/
def Obligations.OutcomeCodeRows : Prop :=
  ∀ s : State,
    exec .outNone s = .next { s with result := .outKind .none } ∧
    exec .outPacket s = .next { s with result := .outKind .packet } ∧
    exec .outError s = .next { s with result := .outKind .error } ∧
    (∀ b, ∃ t o, exec (.decode b) s = .next t ∧ t.result = .outcome o ∧ t.portOutcome = o) ∧
    (s.portOutcome = .none → s.outKind = 0 ∧ s.outLen = 0 ∧ s.outErr = 0 ∧ s.outInfo = 0) ∧
    (∀ n bytes, s.portOutcome = .packet n bytes → n ≤ 1043 →
      s.outKind = 1 ∧ s.outLen.toNat = n ∧ s.outErr = 0 ∧ s.outInfo = 0) ∧
    (∀ e, s.portOutcome = .error e →
      s.outKind = 2 ∧ s.outLen = 0 ∧ s.outErr = e.code ∧ s.outInfo = e.info)

/-- R240, R250, R35: the ten error rows raise their error, which has the row's code on `out_err` ("the codes are the
spec's own", D12) and on `out_info` the type code of UnknownMessageType, else 0; nothing else changes (log entry 7). R240 gives that type
code as 13 to 15; that the row issued whole raises the error for 0 to 12 too is the model's choice (log entry 7). -/
def Obligations.ErrorCodeRows : Prop :=
  ∀ (s : State) (c : BitVec 4), ∀ r ∈ [(Instr.errMissingHeader, Err.missingHeader, 1, 0#4),
      (.errMissingChecksum, .missingChecksum, 2, 0), (.errIncompletePayload, .incompletePayload, 3, 0),
      (.errInvalidDataLength, .invalidDataLength, 4, 0), (.errInvalidMessageIdLength, .invalidMessageIdLength, 5, 0),
      (.errInvalidMessageId, .invalidMessageId, 6, 0), (.errUnknownMessageType c, .unknownMessageType c, 7, c),
      (.errInvalidChecksum, .invalidChecksum, 8, 0), (.errFramingDecodeError, .framingDecodeError, 9, 0),
      (.errInsufficientBufferSize, .insufficientBufferSize, 10, 0)],
    exec r.1 s = .next { s with result := .error r.2.1 } ∧ r.2.1.code.toNat = r.2.2.1 ∧ r.2.1.info = r.2.2.2

/-! ### Header parser (41_header_parser.md) -/

/-- R130 to R136: the seven field getters, in arithmetic on the header bytes. -/
def Obligations.FieldGetters : Prop :=
  ∀ (p : Bytes) (s : State),
    (2 ≤ p.length →
      exec (.getDataLength p) s =
        .next { s with result := .number ((byteAt p 1).toNat % 4 * 256 + (byteAt p 0).toNat) } ∧
      exec (.getOffset p) s = .next { s with result := .flag (decide (128 ≤ (byteAt p 1).toNat)) } ∧
      exec (.getInternal p) s = .next { s with result := .flag (decide ((byteAt p 1).toNat / 64 % 2 = 1)) } ∧
      exec (.getType p) s =
        .next { s with result := .msgType (msgTypeOfCode (BitVec.ofNat 4 ((byteAt p 1).toNat / 4))) }) ∧
    (3 ≤ p.length →
      exec (.getIdLength p) s = .next { s with result := .number ((byteAt p 2).toNat % 16) } ∧
      exec (.getResponse p) s = .next { s with result := .flag (decide ((byteAt p 2).toNat / 16 % 2 = 1)) } ∧
      exec (.getAcknum p) s = .next { s with result := .number ((byteAt p 2).toNat / 32) })

/-- R143, R144, R164: WIRE_SIZE, CHECKSUM and COMPUTE_CHECKSUM on a view that is long enough. -/
def Obligations.SizesAndChecksums : Prop :=
  ∀ (p : Bytes) (s : State) (k : Nat),
    k = 3 + (byteAt p 2).toNat % 16 + ((byteAt p 1).toNat % 4 * 256 + (byteAt p 0).toNat) → 3 ≤ p.length →
    exec (.wireSize p) s = .next { s with result := .number (k + 2) } ∧
    (k + 2 ≤ p.length → exec (.checksum p) s =
      .next { s with result := .number ((byteAt p (k + 1)).toNat * 256 + (byteAt p k).toNat) }) ∧
    (k ≤ p.length → exec (.computeChecksum p) s =
      .next { s with result := .number (crc16 0xFFFF#16 (p.take k)).toNat })

/-- R141, R142: MSG_ID and PAYLOAD: the length error first, then the content error, then the bytes. -/
def Obligations.IdAndPayloadViews : Prop :=
  ∀ (p : Bytes) (s : State) (idl dl : Nat), idl = (byteAt p 2).toNat % 16 →
    dl = (byteAt p 1).toNat % 4 * 256 + (byteAt p 0).toNat → 3 ≤ p.length →
    (idl = 0 →
      exec (.msgId p) s = .next { s with result := .error .invalidMessageIdLength } ∧
      exec (.payload p) s = .next { s with result := .error .invalidMessageIdLength }) ∧
    (idl = 1 → byteAt p 3 = 0 →
      (4 ≤ p.length → exec (.msgId p) s = .next { s with result := .error .invalidMessageId }) ∧
      (4 + dl ≤ p.length → exec (.payload p) s = .next { s with result := .error .invalidMessageId })) ∧
    (idl ≠ 0 → (idl ≠ 1 ∨ byteAt p 3 ≠ 0) →
      (3 + idl ≤ p.length → exec (.msgId p) s = .next { s with result := .bytes ((p.drop 3).take idl) }) ∧
      (3 + idl + dl ≤ p.length →
        exec (.payload p) s = .next { s with result := .bytes ((p.drop (3 + idl)).take dl) }))

/-- U5 (R130 to R136, R141 to R144, R164): a view shorter than the bytes read has no
meaning and is refused by name (log entry 14). -/
def Obligations.ShortViewsAreRefused : Prop :=
  ∀ (p : Bytes) (s : State),
    (p.length < 2 → ∀ i ∈ [Instr.getDataLength p, .getOffset p, .getType p, .getInternal p],
      exec i s = .refused .viewTooShort) ∧
    (p.length < 3 → ∀ i ∈ [Instr.getIdLength p, .getResponse p, .getAcknum p, .msgId p, .payload p, .checksum p,
        .wireSize p, .computeChecksum p], exec i s = .refused .viewTooShort) ∧
    (∀ idl dl, idl = (byteAt p 2).toNat % 16 → dl = (byteAt p 1).toNat % 4 * 256 + (byteAt p 0).toNat →
      (idl ≠ 0 → p.length < 3 + idl → exec (.msgId p) s = .refused .viewTooShort) ∧
      (idl ≠ 0 → p.length < 3 + idl + dl → exec (.payload p) s = .refused .viewTooShort) ∧
      (p.length < 3 + idl + dl → exec (.computeChecksum p) s = .refused .viewTooShort) ∧
      (p.length < 3 + idl + dl + 2 → exec (.checksum p) s = .refused .viewTooShort))

/-- R137, R138: the type code bijection, from the code's side for every code and from the type's side for every type
that TYPE_FROM_CODE produces. -/
def Obligations.TypeCodeBijection : Prop :=
  ∀ s : State,
    (∀ c : BitVec 4, ∃ t, exec (.typeFromCode c) s = .next { s with result := .msgType t } ∧
      exec (.typeToCode t) s = .next { s with result := .number c.toNat } ∧
      (13 ≤ c.toNat → t = .unknown c.toNat)) ∧
    (∀ t : MsgType, (∀ n, t = .unknown n → 13 ≤ n ∧ n ≤ 15) → ∃ c : BitVec 4,
      exec (.typeToCode t) s = .next { s with result := .number c.toNat } ∧
      exec (.typeFromCode c) s = .next { s with result := .msgType t }) ∧
    (∀ n, exec (.typeToCode (.unknown n)) s = .next { s with result := .number n })

/-- R139: the element sizes of the spec's table, and of arrays. The sizes are general knowledge the spec supplies (G3,
log entry 15). -/
def Obligations.TypeSizes : Prop :=
  ∀ (s : State) (n : Nat), ∀ r ∈ [(MsgType.callback, 0), (.custom, 0), (.offsetMetadata, 0), (.byte, 1), (.char, 1),
      (.int8, 1), (.uint8, 1), (.int16, 2), (.uint16, 2), (.int32, 4), (.uint32, 4), (.float32, 4), (.float64, 8),
      (.unknown n, 0)],
    exec (.typeSize r.1) s = .next { s with result := .number r.2 } ∧
    ∀ k, exec (.typeArraySize r.1 k) s = .next { s with result := .number (k * r.2) }

/-- R140: which byte strings are Message Identities. -/
def Obligations.MessageIdentities : Prop :=
  ∀ (p : Bytes) (s : State),
    (1 ≤ p.length ∧ p.length ≤ 15 ∧ p ≠ [0#8] → exec (.msgIdNew p) s = .next { s with result := .identity (some p) }) ∧
    (p = [] ∨ 16 ≤ p.length ∨ p = [0#8] → exec (.msgIdNew p) s = .next { s with result := .identity none })

/-! ### Validator (42_crc_validator.md) -/

/-- R161: a CRC of two strings chains through the register; the default start is `0xFFFF`. -/
def Obligations.CrcChains : Prop :=
  ∀ (a b : Bytes) (c0 : Option Word16) (s : State), ∃ m n,
    exec (.crc16 a c0) s = .next { s with result := .number m } ∧ m < 65536 ∧
    exec (.crc16 b (some (BitVec.ofNat 16 m))) s = .next { s with result := .number n } ∧
    exec (.crc16 (a ++ b) c0) s = .next { s with result := .number n } ∧
    exec (.crc16 a none) s = exec (.crc16 a (some 0xFFFF#16)) s

/-- R162: the check values. -/
def Obligations.CrcCheckValues : Prop :=
  ∀ s : State, ∀ r ∈ [(([] : Bytes), 0xFFFF), ([0x00#8], 0xE1F0), ([0x01#8], 0xF1D1), ([0xFF#8], 0xFF00),
      ([0x00#8, 0x00#8], 0x1D0F),
      ([0x31#8, 0x32#8, 0x33#8, 0x34#8, 0x35#8, 0x36#8, 0x37#8, 0x38#8, 0x39#8], 0x29B1),
      ([0x01#8, 0x14#8, 0x63#8], 0x68DE),
      ([0x01#8, 0x14#8, 0x63#8, 0x61#8, 0x62#8, 0x63#8, 0x2A#8], 0xA3B8)],
    exec (.crc16 r.1 none) s = .next { s with result := .number r.2 }

/-- R165 to R171, R253: VALIDATE, the steps in order, the first that applies deciding; nothing is written. -/
def Obligations.ValidateInOrder : Prop :=
  ∀ (p : Bytes) (s : State) (idl k tc : Nat), idl = (byteAt p 2).toNat % 16 →
    k = 3 + idl + ((byteAt p 1).toNat % 4 * 256 + (byteAt p 0).toNat) → tc = (byteAt p 1).toNat / 4 % 16 →
    exec (.validate p) s = .next { s with
      result := if p.length < 3 then .error .missingHeader
      else if p.length < 5 then .error .missingChecksum
      else if idl = 0 then .error .invalidMessageIdLength
      else if p.length < k + 2 then .error .incompletePayload
      else if s.cfg.rejectUnknownType = true ∧ 12 < tc then .error (.unknownMessageType (BitVec.ofNat 4 tc))
      else if (byteAt p (k + 1)).toNat * 256 + (byteAt p k).toNat ≠ (crc16 0xFFFF#16 (p.take k)).toNat then
        .error .invalidChecksum
      else .ok }

/-- R174: flipping one bit of the header, id or payload of a valid packet, outside the two length fields (and, under
REJECT_UNKNOWN_TYPE, outside `type`), makes VALIDATE answer InvalidChecksum. That the polynomial catches every such flip
is general knowledge the spec supplies (G6, log entry 15). -/
def Obligations.ChecksumSensitivity : Prop :=
  ∀ (p : Bytes) (i n : Nat) (s : State), exec (.validate p) s = .next { s with result := .ok } →
    i + 2 < 5 + (byteAt p 2).toNat % 16 + ((byteAt p 1).toNat % 4 * 256 + (byteAt p 0).toNat) → n < 8 →
    outsideLengths i n → (s.cfg.rejectUnknownType = true → i = 1 → 6 ≤ n) →
    exec (.validate (flipBit p i n)) s = .next { s with result := .error .invalidChecksum }

/-! ### Framing (40_framing.md) -/

/-- R104, C2: MAX_ENCODED_LEN. -/
def Obligations.MaxEncodedLen : Prop :=
  ∀ (n : Nat) (s : State),
    exec (.maxEncodedLen 0) s = .next { s with result := .number 2 } ∧
    (1 ≤ n → ∃ q, 254 * q < n + 254 ∧ n ≤ 254 * q ∧
      exec (.maxEncodedLen n) s = .next { s with result := .number (n + q + 1) })

/-- R114, R103, R83: ENCODE_FRAME and FRAME(p) answer the same bytes; they end in the only `0x00`, the rest is a
well-formed body, and DECODE_BUF of it is the input. -/
def Obligations.BulkRoundTrip : Prop :=
  ∀ (p : Bytes) (s : State), ∃ body,
    exec (.encodeFrame p) s = .next { s with result := .bytes (body ++ [0#8]) } ∧
    exec (.frameOf p) s = .next { s with result := .bytes (body ++ [0#8]) } ∧
    (0#8 : Byte) ∉ body ∧ bodyWellFormed body = true ∧
    exec (.decodeBuf body) s = .next { s with result := .bytes p }

/-- R105: a frame never exceeds MAX_ENCODED_LEN, and meets it when the string is not empty and has no zero. -/
def Obligations.EncodedLengthBound : Prop :=
  ∀ p : Bytes, (encodedFrame p).length ≤ maxEncodedLength p.length ∧
    ((0#8 : Byte) ∉ p → (encodedFrame p).length = maxEncodedLength p.length)

/-- R103 (4), R82: with no run of 254 or more non-zero bytes the frame is two bytes longer than the string, and no code
byte is `0xFF`. -/
def Obligations.ShortRunsCostTwoBytes : Prop :=
  ∀ p : Bytes, (∀ i, i + 254 ≤ p.length → ∃ j, j < 254 ∧ byteAt p (i + j) = 0) →
    (encodedFrame p).length = p.length + 2 ∧
    ∃ bs, blocks? (encodeBody p) = some bs ∧ ∀ b ∈ bs, b.code ≠ 0xFF#8

/-- R106: DECODE_BUF block by block, and its three errors, which are general knowledge the spec supplies (G2, G7, log
entry 15). -/
def Obligations.DecodeBufBlocks : Prop :=
  ∀ s : State,
    exec (.decodeBuf []) s = .next { s with result := .bytes [] } ∧
    (∀ (c : Byte) (data rest d : Bytes), c.toNat = data.length + 1 → (0#8 : Byte) ∉ data →
      exec (.decodeBuf rest) s = .next { s with result := .bytes d } →
      exec (.decodeBuf (c :: data ++ rest)) s =
        .next { s with result := .bytes (data ++ (if c ≠ 0xFF#8 ∧ rest ≠ [] then [0#8] else []) ++ d) }) ∧
    (∀ (c : Byte) (rest : Bytes), (c = 0 ∨ rest.length + 1 < c.toNat ∨ (0#8 : Byte) ∈ rest.take (c.toNat - 1)) →
      exec (.decodeBuf (c :: rest)) s = .next { s with result := .error .framingDecodeError }) ∧
    (∀ (c : Byte) (data rest : Bytes), c.toNat = data.length + 1 →
      exec (.decodeBuf rest) s = .next { s with result := .error .framingDecodeError } →
      exec (.decodeBuf (c :: data ++ rest)) s = .next { s with result := .error .framingDecodeError })

/-- R109, U4: DECODE_IN_PLACE has the result and the errors of DECODE_BUF; on success the decoded bytes lie over the
front of the buffer, on failure the buffer is some bytes of the same length that nothing constrains (log entry 4). -/
def Obligations.InPlaceAgreesWithBulk : Prop :=
  ∀ (e : Bytes) (s : State),
    (∀ d, decodedBody e = .ok d →
      exec (.decodeBuf e) s = .next { s with result := .bytes d } ∧ d.length ≤ e.length ∧
      exec (.decodeInPlace e) s = .next { s with result := .inPlace (some d) (d ++ e.drop d.length) }) ∧
    ((∀ d, decodedBody e ≠ .ok d) →
      exec (.decodeBuf e) s = .next { s with result := .error .framingDecodeError } ∧
      ∃ buffer, buffer.length = e.length ∧
        exec (.decodeInPlace e) s =
          .next { s with result := .inPlace none buffer, freeDraws := s.freeDraws + 1 })

/-- R115, R112: the online de-framer over a well-formed body, its first result dropped, hands on exactly what DECODE_BUF
answers: always under FF_BLOCK_EXCEPTION, and by default when no inner block is full. -/
def Obligations.OnlineAgreesWithBulk : Prop :=
  ∀ (e d : Bytes) (bs : List Block) (s : State), e ≠ [] → blocks? e = some bs → s.frameOffset = 0 →
    s.prevCodeFf = false → (s.cfg.ffBlockException = true ∨ noFullInnerBlock bs = true) →
    exec (.decodeBuf e) s = .next { s with result := .bytes d } →
    ((onlineBytes s e).drop 1).filterMap id = d

/-! ### The decoder as a whole -/

/-- R206, R207, R208 (second half): from EVERY state, parked ones included, a delimiter and then `n` copies of the frame
of one packet yield that packet `n` times, in order; with the valid counter starting `n` below its top it moves by
`n`, the invalid counter not at all, and the machine is idle again. The packet passes VALIDATE, is exactly as long as
its header says, has the offset flag clear, fits in CAP, and (by default) has no run of 254 or more non-zero bytes. -/
def Obligations.BackToBackFrames : Prop :=
  ∀ (p : Bytes) (n : Nat) (s : State), validate s.cfg.rejectUnknownType p = none → p.length = viewWireSize p →
    viewOffset p = false → p.length ≤ s.cfg.cap →
    (s.cfg.ffBlockException = true ∨ ∀ i, i + 254 ≤ p.length → ∃ j, j < 254 ∧ byteAt p (i + j) = 0) →
    s.validPktCount + n ≤ counterMax s.cfg →
    ∃ t, exec (.feedStream (delimiter :: (List.replicate n (encodedFrame p)).flatten)) s = .next t ∧
      t.result = .outcomes (List.replicate n (.packet p.length p)) ∧
      t.validPktCount = s.validPktCount + n ∧ t.invalidPktCount = s.invalidPktCount ∧
      t.fsm = .frameOffset ∧ t.workingZero ∧ t.cfg = s.cfg

/-! ### Packet builder (44_packet_builder.md) -/

/-- R220, R221, U1: NEW_UNCHECKED and SET_DATA_LENGTH: the range error, the value with no meaning, and the two bytes
written, with bits 7:2 of byte 1 kept. That a view shorter than 2 is refused by name is log entry 14. -/
def Obligations.SetDataLength : Prop :=
  ∀ (p : Bytes) (v : Word16) (s : State),
    exec (.newUnchecked p) s = .next { s with result := .view none p } ∧
    (p.length < 2 → exec (.setDataLength p v) s = .refused .viewTooShort) ∧
    (2 ≤ p.length →
      (1024 < v.toNat → exec (.setDataLength p v) s = .next { s with result := .view (some .invalidDataLength) p }) ∧
      (v.toNat = 1024 → exec (.setDataLength p v) s = .refused .dataLength1024) ∧
      (v.toNat < 1024 → ∃ p', exec (.setDataLength p v) s = .next { s with result := .view none p' } ∧
        p'.length = p.length ∧ (byteAt p' 0).toNat = v.toNat % 256 ∧
        (byteAt p' 1).toNat = (byteAt p 1).toNat / 4 * 4 + v.toNat / 256 ∧ ∀ i, 2 ≤ i → byteAt p' i = byteAt p i))

/-- R222, R223, R224, U7: the setters of byte 1 write their own bits and keep the others. That a short view and a type code
above 15 are refused by name is log entry 14. -/
def Obligations.SetByteOne : Prop :=
  ∀ (p : Bytes) (f : Bool) (t : MsgType) (s : State),
    (p.length < 2 → exec (.setOffset p f) s = .refused .viewTooShort ∧
      exec (.setInternal p f) s = .refused .viewTooShort ∧ exec (.setType p t) s = .refused .viewTooShort) ∧
    (2 ≤ p.length →
      (∃ x : Byte, x.toNat = (byteAt p 1).toNat % 128 + 128 * f.toNat ∧
        exec (.setOffset p f) s = .next { s with result := .view none (p.set 1 x) }) ∧
      (∃ x : Byte, x.toNat = (byteAt p 1).toNat / 128 * 128 + 64 * f.toNat + (byteAt p 1).toNat % 64 ∧
        exec (.setInternal p f) s = .next { s with result := .view none (p.set 1 x) }) ∧
      (15 < msgTypeCode t → exec (.setType p t) s = .refused .typeCodeOutOfRange) ∧
      (msgTypeCode t ≤ 15 → ∃ x : Byte,
        x.toNat = (byteAt p 1).toNat / 64 * 64 + 4 * msgTypeCode t + (byteAt p 1).toNat % 4 ∧
        exec (.setType p t) s = .next { s with result := .view none (p.set 1 x) }))

/-- R225, R226, R227, U2: the setters of byte 2. That a short view, and an acknum above 7, which has no meaning (U2), are
refused by name is log entry 14. -/
def Obligations.SetByteTwo : Prop :=
  ∀ (p : Bytes) (v : Byte) (f : Bool) (a : Nat) (s : State),
    (p.length < 3 → exec (.setIdLength p v) s = .refused .viewTooShort ∧
      exec (.setResponse p f) s = .refused .viewTooShort ∧ exec (.setAcknum p a) s = .refused .viewTooShort) ∧
    (3 ≤ p.length →
      (v.toNat = 0 ∨ 15 < v.toNat →
        exec (.setIdLength p v) s = .next { s with result := .view (some .invalidMessageIdLength) p }) ∧
      (1 ≤ v.toNat → v.toNat ≤ 15 → ∃ x : Byte, x.toNat = (byteAt p 2).toNat / 16 * 16 + v.toNat ∧
        exec (.setIdLength p v) s = .next { s with result := .view none (p.set 2 x) }) ∧
      (∃ x : Byte, x.toNat = (byteAt p 2).toNat / 32 * 32 + 16 * f.toNat + (byteAt p 2).toNat % 16 ∧
        exec (.setResponse p f) s = .next { s with result := .view none (p.set 2 x) }) ∧
      (7 < a → exec (.setAcknum p a) s = .refused .acknumOutOfRange) ∧
      (a ≤ 7 → ∃ x : Byte, x.toNat = 32 * a + (byteAt p 2).toNat % 32 ∧
        exec (.setAcknum p a) s = .next { s with result := .view none (p.set 2 x) }))

/-- R228, R229, R230, U5, U16: SET_MSG_ID, SET_PAYLOAD and SET_CHECKSUM. The refusals by name of short views and of
lengths that do not agree, and their order, are log entry 14. -/
def Obligations.SetIdPayloadChecksum : Prop :=
  ∀ (p d : Bytes) (c : Word16) (s : State) (idl dl : Nat), idl = (byteAt p 2).toNat % 16 →
    dl = (byteAt p 1).toNat % 4 * 256 + (byteAt p 0).toNat →
    (identity? d = none →
      exec (.setMsgId p d) s = .next { s with result := .view (some .invalidMessageId) p }) ∧
    (identity? d = some d →
      (p.length < 3 → exec (.setMsgId p d) s = .refused .viewTooShort) ∧
      (3 ≤ p.length → d.length ≠ idl → exec (.setMsgId p d) s = .refused .lengthFieldMismatch) ∧
      (3 ≤ p.length → d.length = idl → p.length < 3 + idl → exec (.setMsgId p d) s = .refused .viewTooShort) ∧
      (d.length = idl → 3 + idl ≤ p.length →
        exec (.setMsgId p d) s = .next { s with result := .view none (p.take 3 ++ d ++ p.drop (3 + idl)) })) ∧
    (p.length < 3 → exec (.setPayload p d) s = .refused .viewTooShort ∧
      exec (.setChecksum p c) s = .refused .viewTooShort) ∧
    (3 ≤ p.length → (idl = 0 ∨ d.length ≠ dl) → exec (.setPayload p d) s = .refused .lengthFieldMismatch) ∧
    (3 ≤ p.length → idl ≠ 0 → d.length = dl → p.length < 3 + idl + dl →
      exec (.setPayload p d) s = .refused .viewTooShort) ∧
    (idl ≠ 0 → d.length = dl → 3 + idl + dl ≤ p.length →
      exec (.setPayload p d) s =
        .next { s with result := .view none (p.take (3 + idl) ++ d ++ p.drop (3 + idl + dl)) }) ∧
    (3 ≤ p.length → p.length < 5 + idl + dl → exec (.setChecksum p c) s = .refused .viewTooShort) ∧
    (5 + idl + dl ≤ p.length → ∃ lo hi : Byte, hi.toNat * 256 + lo.toNat = c.toNat ∧
      exec (.setChecksum p c) s =
        .next { s with result := .view none ((p.set (3 + idl + dl) lo).set (4 + idl + dl) hi) })

/-- R232: after a header setter every getter of another field answers what it answered before. -/
def Obligations.SettersAreIndependent : Prop :=
  ∀ (p p' : Bytes) (s : State),
    (∀ v, exec (.setDataLength p v) s = .next { s with result := .view none p' } →
      viewOffset p' = viewOffset p ∧ viewInternal p' = viewInternal p ∧ viewTypeCode p' = viewTypeCode p ∧
      viewIdLength p' = viewIdLength p ∧ viewResponse p' = viewResponse p ∧ viewAcknum p' = viewAcknum p) ∧
    (∀ f, exec (.setOffset p f) s = .next { s with result := .view none p' } →
      viewDataLength p' = viewDataLength p ∧ viewInternal p' = viewInternal p ∧ viewTypeCode p' = viewTypeCode p ∧
      viewIdLength p' = viewIdLength p ∧ viewResponse p' = viewResponse p ∧ viewAcknum p' = viewAcknum p) ∧
    (∀ t, exec (.setType p t) s = .next { s with result := .view none p' } →
      viewDataLength p' = viewDataLength p ∧ viewOffset p' = viewOffset p ∧ viewInternal p' = viewInternal p ∧
      viewIdLength p' = viewIdLength p ∧ viewResponse p' = viewResponse p ∧ viewAcknum p' = viewAcknum p) ∧
    (∀ f, exec (.setInternal p f) s = .next { s with result := .view none p' } →
      viewDataLength p' = viewDataLength p ∧ viewOffset p' = viewOffset p ∧ viewTypeCode p' = viewTypeCode p ∧
      viewIdLength p' = viewIdLength p ∧ viewResponse p' = viewResponse p ∧ viewAcknum p' = viewAcknum p) ∧
    (∀ v, exec (.setIdLength p v) s = .next { s with result := .view none p' } →
      viewDataLength p' = viewDataLength p ∧ viewOffset p' = viewOffset p ∧ viewInternal p' = viewInternal p ∧
      viewTypeCode p' = viewTypeCode p ∧ viewResponse p' = viewResponse p ∧ viewAcknum p' = viewAcknum p) ∧
    (∀ f, exec (.setResponse p f) s = .next { s with result := .view none p' } →
      viewDataLength p' = viewDataLength p ∧ viewOffset p' = viewOffset p ∧ viewInternal p' = viewInternal p ∧
      viewTypeCode p' = viewTypeCode p ∧ viewIdLength p' = viewIdLength p ∧ viewAcknum p' = viewAcknum p) ∧
    (∀ v, exec (.setAcknum p v) s = .next { s with result := .view none p' } →
      viewDataLength p' = viewDataLength p ∧ viewOffset p' = viewOffset p ∧ viewInternal p' = viewInternal p ∧
      viewTypeCode p' = viewTypeCode p ∧ viewIdLength p' = viewIdLength p ∧ viewResponse p' = viewResponse p)

/-- R231: with its arguments in range PKT answers a packet that VALIDATE accepts (type codes 13 to 15 only without
REJECT_UNKNOWN_TYPE), exactly as long as its header says, from which every getter reads the argument back. -/
def Obligations.BuiltPacketsValidate : Prop :=
  ∀ (k : PktArgs) (s : State), identity? k.id = some k.id → k.payload.length ≤ 1023 → msgTypeCode k.type ≤ 15 →
    k.acknum ≤ 7 → (s.cfg.rejectUnknownType = true → msgTypeCode k.type ≤ 12) →
    ∃ p, exec (.pkt k) s = .next { s with result := .bytes p } ∧
      exec (.validate p) s = .next { s with result := .ok } ∧
      p.length = 3 + k.id.length + k.payload.length + 2 ∧ p.length = viewWireSize p ∧
      viewMsgId p = k.id ∧ viewPayload p = k.payload ∧ (viewTypeCode p).toNat = msgTypeCode k.type ∧
      viewInternal p = k.internal ∧ viewOffset p = k.offset ∧ viewResponse p = k.response ∧
      (viewAcknum p).toNat = k.acknum

/-- R231 with R221, R223, R225, R227, R228: PKT out of range: the errors and the refusals of the setters it is made of,
the first in the recipe's order. The refusals are log entry 14; that lengths too large for the setters' operands meet the
same range tests is log entry 21. -/
def Obligations.PktOutOfRange : Prop :=
  ∀ (k : PktArgs) (s : State),
    (1024 < k.payload.length → exec (.pkt k) s = .next { s with result := .error .invalidDataLength }) ∧
    (k.payload.length = 1024 → exec (.pkt k) s = .refused .dataLength1024) ∧
    (k.payload.length < 1024 → 15 < msgTypeCode k.type → exec (.pkt k) s = .refused .typeCodeOutOfRange) ∧
    (k.payload.length < 1024 → msgTypeCode k.type ≤ 15 → (k.id.length = 0 ∨ 15 < k.id.length) →
      exec (.pkt k) s = .next { s with result := .error .invalidMessageIdLength }) ∧
    (k.payload.length < 1024 → msgTypeCode k.type ≤ 15 → 1 ≤ k.id.length → k.id.length ≤ 15 → 7 < k.acknum →
      exec (.pkt k) s = .refused .acknumOutOfRange) ∧
    (k.payload.length < 1024 → msgTypeCode k.type ≤ 15 → k.acknum ≤ 7 → k.id = [0#8] →
      exec (.pkt k) s = .next { s with result := .error .invalidMessageId })
end

