-- ==== Sys2Proof/Laws/State.lean ====
section
/-! SUPPORT. What each register update of Machine/Ops.lean leaves in each field: one lemma per field per update, so that
no later proof unfolds a record update. -/

namespace Sys2Proof.Machine

variable (s : State)

/-! ### State.finish -/

@[simp] theorem State.finish_cfg (r : Result) : (s.finish r).cfg = s.cfg := rfl
@[simp] theorem State.finish_fsm (r : Result) : (s.finish r).fsm = s.fsm := rfl
@[simp] theorem State.finish_frameOffset (r : Result) : (s.finish r).frameOffset = s.frameOffset := rfl
@[simp] theorem State.finish_cursor (r : Result) : (s.finish r).cursor = s.cursor := rfl
@[simp] theorem State.finish_dataLength (r : Result) : (s.finish r).dataLength = s.dataLength := rfl
@[simp] theorem State.finish_offsetFlag (r : Result) : (s.finish r).offsetFlag = s.offsetFlag := rfl
@[simp] theorem State.finish_idLength (r : Result) : (s.finish r).idLength = s.idLength := rfl
@[simp] theorem State.finish_idCount (r : Result) : (s.finish r).idCount = s.idCount := rfl
@[simp] theorem State.finish_payloadCount (r : Result) : (s.finish r).payloadCount = s.payloadCount := rfl
@[simp] theorem State.finish_prevCodeFf (r : Result) : (s.finish r).prevCodeFf = s.prevCodeFf := rfl
@[simp] theorem State.finish_validPktCount (r : Result) : (s.finish r).validPktCount = s.validPktCount := rfl
@[simp] theorem State.finish_invalidPktCount (r : Result) : (s.finish r).invalidPktCount = s.invalidPktCount := rfl
@[simp] theorem State.finish_buf (r : Result) : (s.finish r).buf = s.buf := rfl
@[simp] theorem State.finish_bufEpoch (r : Result) : (s.finish r).bufEpoch = s.bufEpoch := rfl
@[simp] theorem State.finish_freeDraws (r : Result) : (s.finish r).freeDraws = s.freeDraws := rfl
@[simp] theorem State.finish_result (r : Result) : (s.finish r).result = r := rfl
@[simp] theorem State.finish_portOutcome (r : Result) : (s.finish r).portOutcome = s.portOutcome := rfl
@[simp] theorem State.finish_pending (r : Result) : (s.finish r).pending = s.pending := rfl

/-! ### State.raiseError -/

@[simp] theorem State.raiseError_cfg (e : Err) : (s.raiseError e).cfg = s.cfg := rfl
@[simp] theorem State.raiseError_fsm (e : Err) : (s.raiseError e).fsm = s.fsm := rfl
@[simp] theorem State.raiseError_frameOffset (e : Err) : (s.raiseError e).frameOffset = s.frameOffset := rfl
@[simp] theorem State.raiseError_cursor (e : Err) : (s.raiseError e).cursor = s.cursor := rfl
@[simp] theorem State.raiseError_dataLength (e : Err) : (s.raiseError e).dataLength = s.dataLength := rfl
@[simp] theorem State.raiseError_offsetFlag (e : Err) : (s.raiseError e).offsetFlag = s.offsetFlag := rfl
@[simp] theorem State.raiseError_idLength (e : Err) : (s.raiseError e).idLength = s.idLength := rfl
@[simp] theorem State.raiseError_idCount (e : Err) : (s.raiseError e).idCount = s.idCount := rfl
@[simp] theorem State.raiseError_payloadCount (e : Err) : (s.raiseError e).payloadCount = s.payloadCount := rfl
@[simp] theorem State.raiseError_prevCodeFf (e : Err) : (s.raiseError e).prevCodeFf = s.prevCodeFf := rfl
@[simp] theorem State.raiseError_validPktCount (e : Err) : (s.raiseError e).validPktCount = s.validPktCount := rfl
@[simp] theorem State.raiseError_invalidPktCount (e : Err) : (s.raiseError e).invalidPktCount = s.invalidPktCount := rfl
@[simp] theorem State.raiseError_buf (e : Err) : (s.raiseError e).buf = s.buf := rfl
@[simp] theorem State.raiseError_bufEpoch (e : Err) : (s.raiseError e).bufEpoch = s.bufEpoch := rfl
@[simp] theorem State.raiseError_freeDraws (e : Err) : (s.raiseError e).freeDraws = s.freeDraws := rfl
@[simp] theorem State.raiseError_result (e : Err) : (s.raiseError e).result = .error e := rfl
@[simp] theorem State.raiseError_portOutcome (e : Err) : (s.raiseError e).portOutcome = s.portOutcome := rfl
@[simp] theorem State.raiseError_pending (e : Err) : (s.raiseError e).pending = s.pending := rfl

/-! ### State.drive -/

@[simp] theorem State.drive_cfg (o : DecodeOutcome) : (s.drive o).cfg = s.cfg := rfl
@[simp] theorem State.drive_fsm (o : DecodeOutcome) : (s.drive o).fsm = s.fsm := rfl
@[simp] theorem State.drive_frameOffset (o : DecodeOutcome) : (s.drive o).frameOffset = s.frameOffset := rfl
@[simp] theorem State.drive_cursor (o : DecodeOutcome) : (s.drive o).cursor = s.cursor := rfl
@[simp] theorem State.drive_dataLength (o : DecodeOutcome) : (s.drive o).dataLength = s.dataLength := rfl
@[simp] theorem State.drive_offsetFlag (o : DecodeOutcome) : (s.drive o).offsetFlag = s.offsetFlag := rfl
@[simp] theorem State.drive_idLength (o : DecodeOutcome) : (s.drive o).idLength = s.idLength := rfl
@[simp] theorem State.drive_idCount (o : DecodeOutcome) : (s.drive o).idCount = s.idCount := rfl
@[simp] theorem State.drive_payloadCount (o : DecodeOutcome) : (s.drive o).payloadCount = s.payloadCount := rfl
@[simp] theorem State.drive_prevCodeFf (o : DecodeOutcome) : (s.drive o).prevCodeFf = s.prevCodeFf := rfl
@[simp] theorem State.drive_validPktCount (o : DecodeOutcome) : (s.drive o).validPktCount = s.validPktCount := rfl
@[simp] theorem State.drive_invalidPktCount (o : DecodeOutcome) : (s.drive o).invalidPktCount = s.invalidPktCount := rfl
@[simp] theorem State.drive_buf (o : DecodeOutcome) : (s.drive o).buf = s.buf := rfl
@[simp] theorem State.drive_bufEpoch (o : DecodeOutcome) : (s.drive o).bufEpoch = s.bufEpoch := rfl
@[simp] theorem State.drive_freeDraws (o : DecodeOutcome) : (s.drive o).freeDraws = s.freeDraws := rfl
@[simp] theorem State.drive_result (o : DecodeOutcome) : (s.drive o).result = s.result := rfl
@[simp] theorem State.drive_portOutcome (o : DecodeOutcome) : (s.drive o).portOutcome = o := rfl
@[simp] theorem State.drive_pending (o : DecodeOutcome) : (s.drive o).pending = s.pending := rfl

/-! ### State.finishQuiet -/

@[simp] theorem State.finishQuiet_cfg : s.finishQuiet.cfg = s.cfg := rfl
@[simp] theorem State.finishQuiet_fsm : s.finishQuiet.fsm = s.fsm := rfl
@[simp] theorem State.finishQuiet_frameOffset : s.finishQuiet.frameOffset = s.frameOffset := rfl
@[simp] theorem State.finishQuiet_cursor : s.finishQuiet.cursor = s.cursor := rfl
@[simp] theorem State.finishQuiet_dataLength : s.finishQuiet.dataLength = s.dataLength := rfl
@[simp] theorem State.finishQuiet_offsetFlag : s.finishQuiet.offsetFlag = s.offsetFlag := rfl
@[simp] theorem State.finishQuiet_idLength : s.finishQuiet.idLength = s.idLength := rfl
@[simp] theorem State.finishQuiet_idCount : s.finishQuiet.idCount = s.idCount := rfl
@[simp] theorem State.finishQuiet_payloadCount : s.finishQuiet.payloadCount = s.payloadCount := rfl
@[simp] theorem State.finishQuiet_prevCodeFf : s.finishQuiet.prevCodeFf = s.prevCodeFf := rfl
@[simp] theorem State.finishQuiet_validPktCount : s.finishQuiet.validPktCount = s.validPktCount := rfl
@[simp] theorem State.finishQuiet_invalidPktCount : s.finishQuiet.invalidPktCount = s.invalidPktCount := rfl
@[simp] theorem State.finishQuiet_buf : s.finishQuiet.buf = s.buf := rfl
@[simp] theorem State.finishQuiet_bufEpoch : s.finishQuiet.bufEpoch = s.bufEpoch := rfl
@[simp] theorem State.finishQuiet_freeDraws : s.finishQuiet.freeDraws = s.freeDraws := rfl
@[simp] theorem State.finishQuiet_result : s.finishQuiet.result = .none := rfl
@[simp] theorem State.finishQuiet_portOutcome : s.finishQuiet.portOutcome = .none := rfl
@[simp] theorem State.finishQuiet_pending : s.finishQuiet.pending = s.pending := rfl

/-! ### State.goto -/

@[simp] theorem State.goto_cfg (st : FsmState) : (s.goto st).cfg = s.cfg := rfl
@[simp] theorem State.goto_fsm (st : FsmState) : (s.goto st).fsm = st := rfl
@[simp] theorem State.goto_frameOffset (st : FsmState) : (s.goto st).frameOffset = s.frameOffset := rfl
@[simp] theorem State.goto_cursor (st : FsmState) : (s.goto st).cursor = s.cursor := rfl
@[simp] theorem State.goto_dataLength (st : FsmState) : (s.goto st).dataLength = s.dataLength := rfl
@[simp] theorem State.goto_offsetFlag (st : FsmState) : (s.goto st).offsetFlag = s.offsetFlag := rfl
@[simp] theorem State.goto_idLength (st : FsmState) : (s.goto st).idLength = s.idLength := rfl
@[simp] theorem State.goto_idCount (st : FsmState) : (s.goto st).idCount = s.idCount := rfl
@[simp] theorem State.goto_payloadCount (st : FsmState) : (s.goto st).payloadCount = s.payloadCount := rfl
@[simp] theorem State.goto_prevCodeFf (st : FsmState) : (s.goto st).prevCodeFf = s.prevCodeFf := rfl
@[simp] theorem State.goto_validPktCount (st : FsmState) : (s.goto st).validPktCount = s.validPktCount := rfl
@[simp] theorem State.goto_invalidPktCount (st : FsmState) : (s.goto st).invalidPktCount = s.invalidPktCount := rfl
@[simp] theorem State.goto_buf (st : FsmState) : (s.goto st).buf = s.buf := rfl
@[simp] theorem State.goto_bufEpoch (st : FsmState) : (s.goto st).bufEpoch = s.bufEpoch := rfl
@[simp] theorem State.goto_freeDraws (st : FsmState) : (s.goto st).freeDraws = s.freeDraws := rfl
@[simp] theorem State.goto_result (st : FsmState) : (s.goto st).result = s.result := rfl
@[simp] theorem State.goto_portOutcome (st : FsmState) : (s.goto st).portOutcome = s.portOutcome := rfl
@[simp] theorem State.goto_pending (st : FsmState) : (s.goto st).pending = s.pending := rfl

/-! ### State.setFrameOffset -/

@[simp] theorem State.setFrameOffset_cfg (v : BitVec 8) : (s.setFrameOffset v).cfg = s.cfg := rfl
@[simp] theorem State.setFrameOffset_fsm (v : BitVec 8) : (s.setFrameOffset v).fsm = s.fsm := rfl
@[simp] theorem State.setFrameOffset_frameOffset (v : BitVec 8) : (s.setFrameOffset v).frameOffset = v := rfl
@[simp] theorem State.setFrameOffset_cursor (v : BitVec 8) : (s.setFrameOffset v).cursor = s.cursor := rfl
@[simp] theorem State.setFrameOffset_dataLength (v : BitVec 8) : (s.setFrameOffset v).dataLength = s.dataLength := rfl
@[simp] theorem State.setFrameOffset_offsetFlag (v : BitVec 8) : (s.setFrameOffset v).offsetFlag = s.offsetFlag := rfl
@[simp] theorem State.setFrameOffset_idLength (v : BitVec 8) : (s.setFrameOffset v).idLength = s.idLength := rfl
@[simp] theorem State.setFrameOffset_idCount (v : BitVec 8) : (s.setFrameOffset v).idCount = s.idCount := rfl
@[simp] theorem State.setFrameOffset_payloadCount (v : BitVec 8) : (s.setFrameOffset v).payloadCount = s.payloadCount := rfl
@[simp] theorem State.setFrameOffset_prevCodeFf (v : BitVec 8) : (s.setFrameOffset v).prevCodeFf = s.prevCodeFf := rfl
@[simp] theorem State.setFrameOffset_validPktCount (v : BitVec 8) : (s.setFrameOffset v).validPktCount = s.validPktCount := rfl
@[simp] theorem State.setFrameOffset_invalidPktCount (v : BitVec 8) : (s.setFrameOffset v).invalidPktCount = s.invalidPktCount := rfl
@[simp] theorem State.setFrameOffset_buf (v : BitVec 8) : (s.setFrameOffset v).buf = s.buf := rfl
@[simp] theorem State.setFrameOffset_bufEpoch (v : BitVec 8) : (s.setFrameOffset v).bufEpoch = s.bufEpoch := rfl
@[simp] theorem State.setFrameOffset_freeDraws (v : BitVec 8) : (s.setFrameOffset v).freeDraws = s.freeDraws := rfl
@[simp] theorem State.setFrameOffset_result (v : BitVec 8) : (s.setFrameOffset v).result = s.result := rfl
@[simp] theorem State.setFrameOffset_portOutcome (v : BitVec 8) : (s.setFrameOffset v).portOutcome = s.portOutcome := rfl
@[simp] theorem State.setFrameOffset_pending (v : BitVec 8) : (s.setFrameOffset v).pending = s.pending := rfl

/-! ### State.setPrevCodeFf -/

@[simp] theorem State.setPrevCodeFf_cfg (v : Bool) : (s.setPrevCodeFf v).cfg = s.cfg := rfl
@[simp] theorem State.setPrevCodeFf_fsm (v : Bool) : (s.setPrevCodeFf v).fsm = s.fsm := rfl
@[simp] theorem State.setPrevCodeFf_frameOffset (v : Bool) : (s.setPrevCodeFf v).frameOffset = s.frameOffset := rfl
@[simp] theorem State.setPrevCodeFf_cursor (v : Bool) : (s.setPrevCodeFf v).cursor = s.cursor := rfl
@[simp] theorem State.setPrevCodeFf_dataLength (v : Bool) : (s.setPrevCodeFf v).dataLength = s.dataLength := rfl
@[simp] theorem State.setPrevCodeFf_offsetFlag (v : Bool) : (s.setPrevCodeFf v).offsetFlag = s.offsetFlag := rfl
@[simp] theorem State.setPrevCodeFf_idLength (v : Bool) : (s.setPrevCodeFf v).idLength = s.idLength := rfl
@[simp] theorem State.setPrevCodeFf_idCount (v : Bool) : (s.setPrevCodeFf v).idCount = s.idCount := rfl
@[simp] theorem State.setPrevCodeFf_payloadCount (v : Bool) : (s.setPrevCodeFf v).payloadCount = s.payloadCount := rfl
@[simp] theorem State.setPrevCodeFf_prevCodeFf (v : Bool) : (s.setPrevCodeFf v).prevCodeFf = v := rfl
@[simp] theorem State.setPrevCodeFf_validPktCount (v : Bool) : (s.setPrevCodeFf v).validPktCount = s.validPktCount := rfl
@[simp] theorem State.setPrevCodeFf_invalidPktCount (v : Bool) : (s.setPrevCodeFf v).invalidPktCount = s.invalidPktCount := rfl
@[simp] theorem State.setPrevCodeFf_buf (v : Bool) : (s.setPrevCodeFf v).buf = s.buf := rfl
@[simp] theorem State.setPrevCodeFf_bufEpoch (v : Bool) : (s.setPrevCodeFf v).bufEpoch = s.bufEpoch := rfl
@[simp] theorem State.setPrevCodeFf_freeDraws (v : Bool) : (s.setPrevCodeFf v).freeDraws = s.freeDraws := rfl
@[simp] theorem State.setPrevCodeFf_result (v : Bool) : (s.setPrevCodeFf v).result = s.result := rfl
@[simp] theorem State.setPrevCodeFf_portOutcome (v : Bool) : (s.setPrevCodeFf v).portOutcome = s.portOutcome := rfl
@[simp] theorem State.setPrevCodeFf_pending (v : Bool) : (s.setPrevCodeFf v).pending = s.pending := rfl

/-! ### State.store -/

@[simp] theorem State.store_cfg (x : Byte) : (s.store x).cfg = s.cfg := rfl
@[simp] theorem State.store_fsm (x : Byte) : (s.store x).fsm = s.fsm := rfl
@[simp] theorem State.store_frameOffset (x : Byte) : (s.store x).frameOffset = s.frameOffset := rfl
@[simp] theorem State.store_cursor (x : Byte) : (s.store x).cursor = s.cursor + 1 := rfl
@[simp] theorem State.store_dataLength (x : Byte) : (s.store x).dataLength = s.dataLength := rfl
@[simp] theorem State.store_offsetFlag (x : Byte) : (s.store x).offsetFlag = s.offsetFlag := rfl
@[simp] theorem State.store_idLength (x : Byte) : (s.store x).idLength = s.idLength := rfl
@[simp] theorem State.store_idCount (x : Byte) : (s.store x).idCount = s.idCount := rfl
@[simp] theorem State.store_payloadCount (x : Byte) : (s.store x).payloadCount = s.payloadCount := rfl
@[simp] theorem State.store_prevCodeFf (x : Byte) : (s.store x).prevCodeFf = s.prevCodeFf := rfl
@[simp] theorem State.store_validPktCount (x : Byte) : (s.store x).validPktCount = s.validPktCount := rfl
@[simp] theorem State.store_invalidPktCount (x : Byte) : (s.store x).invalidPktCount = s.invalidPktCount := rfl
@[simp] theorem State.store_buf (x : Byte) : (s.store x).buf = Memory.write s.buf s.cursor x := rfl
@[simp] theorem State.store_bufEpoch (x : Byte) : (s.store x).bufEpoch = s.bufEpoch := rfl
@[simp] theorem State.store_freeDraws (x : Byte) : (s.store x).freeDraws = s.freeDraws := rfl
@[simp] theorem State.store_result (x : Byte) : (s.store x).result = s.result := rfl
@[simp] theorem State.store_portOutcome (x : Byte) : (s.store x).portOutcome = s.portOutcome := rfl
@[simp] theorem State.store_pending (x : Byte) : (s.store x).pending = s.pending := rfl

/-! ### State.latchLengthLow -/

@[simp] theorem State.latchLengthLow_cfg (x : Byte) : (s.latchLengthLow x).cfg = s.cfg := rfl
@[simp] theorem State.latchLengthLow_fsm (x : Byte) : (s.latchLengthLow x).fsm = s.fsm := rfl
@[simp] theorem State.latchLengthLow_frameOffset (x : Byte) : (s.latchLengthLow x).frameOffset = s.frameOffset := rfl
@[simp] theorem State.latchLengthLow_cursor (x : Byte) : (s.latchLengthLow x).cursor = s.cursor := rfl
@[simp] theorem State.latchLengthLow_dataLength (x : Byte) : (s.latchLengthLow x).dataLength = s.dataLength.extractLsb' 8 2 ++ x := rfl
@[simp] theorem State.latchLengthLow_offsetFlag (x : Byte) : (s.latchLengthLow x).offsetFlag = s.offsetFlag := rfl
@[simp] theorem State.latchLengthLow_idLength (x : Byte) : (s.latchLengthLow x).idLength = s.idLength := rfl
@[simp] theorem State.latchLengthLow_idCount (x : Byte) : (s.latchLengthLow x).idCount = s.idCount := rfl
@[simp] theorem State.latchLengthLow_payloadCount (x : Byte) : (s.latchLengthLow x).payloadCount = s.payloadCount := rfl
@[simp] theorem State.latchLengthLow_prevCodeFf (x : Byte) : (s.latchLengthLow x).prevCodeFf = s.prevCodeFf := rfl
@[simp] theorem State.latchLengthLow_validPktCount (x : Byte) : (s.latchLengthLow x).validPktCount = s.validPktCount := rfl
@[simp] theorem State.latchLengthLow_invalidPktCount (x : Byte) : (s.latchLengthLow x).invalidPktCount = s.invalidPktCount := rfl
@[simp] theorem State.latchLengthLow_buf (x : Byte) : (s.latchLengthLow x).buf = s.buf := rfl
@[simp] theorem State.latchLengthLow_bufEpoch (x : Byte) : (s.latchLengthLow x).bufEpoch = s.bufEpoch := rfl
@[simp] theorem State.latchLengthLow_freeDraws (x : Byte) : (s.latchLengthLow x).freeDraws = s.freeDraws := rfl
@[simp] theorem State.latchLengthLow_result (x : Byte) : (s.latchLengthLow x).result = s.result := rfl
@[simp] theorem State.latchLengthLow_portOutcome (x : Byte) : (s.latchLengthLow x).portOutcome = s.portOutcome := rfl
@[simp] theorem State.latchLengthLow_pending (x : Byte) : (s.latchLengthLow x).pending = s.pending := rfl

/-! ### State.latchLengthHigh -/

@[simp] theorem State.latchLengthHigh_cfg (x : Byte) : (s.latchLengthHigh x).cfg = s.cfg := rfl
@[simp] theorem State.latchLengthHigh_fsm (x : Byte) : (s.latchLengthHigh x).fsm = s.fsm := rfl
@[simp] theorem State.latchLengthHigh_frameOffset (x : Byte) : (s.latchLengthHigh x).frameOffset = s.frameOffset := rfl
@[simp] theorem State.latchLengthHigh_cursor (x : Byte) : (s.latchLengthHigh x).cursor = s.cursor := rfl
@[simp] theorem State.latchLengthHigh_dataLength (x : Byte) : (s.latchLengthHigh x).dataLength = x.extractLsb' 0 2 ++ s.dataLength.extractLsb' 0 8 := rfl
@[simp] theorem State.latchLengthHigh_offsetFlag (x : Byte) : (s.latchLengthHigh x).offsetFlag = offsetOf x := rfl
@[simp] theorem State.latchLengthHigh_idLength (x : Byte) : (s.latchLengthHigh x).idLength = s.idLength := rfl
@[simp] theorem State.latchLengthHigh_idCount (x : Byte) : (s.latchLengthHigh x).idCount = s.idCount := rfl
@[simp] theorem State.latchLengthHigh_payloadCount (x : Byte) : (s.latchLengthHigh x).payloadCount = s.payloadCount := rfl
@[simp] theorem State.latchLengthHigh_prevCodeFf (x : Byte) : (s.latchLengthHigh x).prevCodeFf = s.prevCodeFf := rfl
@[simp] theorem State.latchLengthHigh_validPktCount (x : Byte) : (s.latchLengthHigh x).validPktCount = s.validPktCount := rfl
@[simp] theorem State.latchLengthHigh_invalidPktCount (x : Byte) : (s.latchLengthHigh x).invalidPktCount = s.invalidPktCount := rfl
@[simp] theorem State.latchLengthHigh_buf (x : Byte) : (s.latchLengthHigh x).buf = s.buf := rfl
@[simp] theorem State.latchLengthHigh_bufEpoch (x : Byte) : (s.latchLengthHigh x).bufEpoch = s.bufEpoch := rfl
@[simp] theorem State.latchLengthHigh_freeDraws (x : Byte) : (s.latchLengthHigh x).freeDraws = s.freeDraws := rfl
@[simp] theorem State.latchLengthHigh_result (x : Byte) : (s.latchLengthHigh x).result = s.result := rfl
@[simp] theorem State.latchLengthHigh_portOutcome (x : Byte) : (s.latchLengthHigh x).portOutcome = s.portOutcome := rfl
@[simp] theorem State.latchLengthHigh_pending (x : Byte) : (s.latchLengthHigh x).pending = s.pending := rfl

/-! ### State.latchIdLength -/

@[simp] theorem State.latchIdLength_cfg (x : Byte) : (s.latchIdLength x).cfg = s.cfg := rfl
@[simp] theorem State.latchIdLength_fsm (x : Byte) : (s.latchIdLength x).fsm = s.fsm := rfl
@[simp] theorem State.latchIdLength_frameOffset (x : Byte) : (s.latchIdLength x).frameOffset = s.frameOffset := rfl
@[simp] theorem State.latchIdLength_cursor (x : Byte) : (s.latchIdLength x).cursor = s.cursor := rfl
@[simp] theorem State.latchIdLength_dataLength (x : Byte) : (s.latchIdLength x).dataLength = s.dataLength := rfl
@[simp] theorem State.latchIdLength_offsetFlag (x : Byte) : (s.latchIdLength x).offsetFlag = s.offsetFlag := rfl
@[simp] theorem State.latchIdLength_idLength (x : Byte) : (s.latchIdLength x).idLength = idLengthOf x := rfl
@[simp] theorem State.latchIdLength_idCount (x : Byte) : (s.latchIdLength x).idCount = 0 := rfl
@[simp] theorem State.latchIdLength_payloadCount (x : Byte) : (s.latchIdLength x).payloadCount = s.payloadCount := rfl
@[simp] theorem State.latchIdLength_prevCodeFf (x : Byte) : (s.latchIdLength x).prevCodeFf = s.prevCodeFf := rfl
@[simp] theorem State.latchIdLength_validPktCount (x : Byte) : (s.latchIdLength x).validPktCount = s.validPktCount := rfl
@[simp] theorem State.latchIdLength_invalidPktCount (x : Byte) : (s.latchIdLength x).invalidPktCount = s.invalidPktCount := rfl
@[simp] theorem State.latchIdLength_buf (x : Byte) : (s.latchIdLength x).buf = s.buf := rfl
@[simp] theorem State.latchIdLength_bufEpoch (x : Byte) : (s.latchIdLength x).bufEpoch = s.bufEpoch := rfl
@[simp] theorem State.latchIdLength_freeDraws (x : Byte) : (s.latchIdLength x).freeDraws = s.freeDraws := rfl
@[simp] theorem State.latchIdLength_result (x : Byte) : (s.latchIdLength x).result = s.result := rfl
@[simp] theorem State.latchIdLength_portOutcome (x : Byte) : (s.latchIdLength x).portOutcome = s.portOutcome := rfl
@[simp] theorem State.latchIdLength_pending (x : Byte) : (s.latchIdLength x).pending = s.pending := rfl

/-! ### State.countId -/

@[simp] theorem State.countId_cfg : s.countId.cfg = s.cfg := rfl
@[simp] theorem State.countId_fsm : s.countId.fsm = s.fsm := rfl
@[simp] theorem State.countId_frameOffset : s.countId.frameOffset = s.frameOffset := rfl
@[simp] theorem State.countId_cursor : s.countId.cursor = s.cursor := rfl
@[simp] theorem State.countId_dataLength : s.countId.dataLength = s.dataLength := rfl
@[simp] theorem State.countId_offsetFlag : s.countId.offsetFlag = s.offsetFlag := rfl
@[simp] theorem State.countId_idLength : s.countId.idLength = s.idLength := rfl
@[simp] theorem State.countId_idCount : s.countId.idCount = s.idCount + 1 := rfl
@[simp] theorem State.countId_payloadCount : s.countId.payloadCount = s.payloadCount := rfl
@[simp] theorem State.countId_prevCodeFf : s.countId.prevCodeFf = s.prevCodeFf := rfl
@[simp] theorem State.countId_validPktCount : s.countId.validPktCount = s.validPktCount := rfl
@[simp] theorem State.countId_invalidPktCount : s.countId.invalidPktCount = s.invalidPktCount := rfl
@[simp] theorem State.countId_buf : s.countId.buf = s.buf := rfl
@[simp] theorem State.countId_bufEpoch : s.countId.bufEpoch = s.bufEpoch := rfl
@[simp] theorem State.countId_freeDraws : s.countId.freeDraws = s.freeDraws := rfl
@[simp] theorem State.countId_result : s.countId.result = s.result := rfl
@[simp] theorem State.countId_portOutcome : s.countId.portOutcome = s.portOutcome := rfl
@[simp] theorem State.countId_pending : s.countId.pending = s.pending := rfl

/-! ### State.countPayload -/

@[simp] theorem State.countPayload_cfg : s.countPayload.cfg = s.cfg := rfl
@[simp] theorem State.countPayload_fsm : s.countPayload.fsm = s.fsm := rfl
@[simp] theorem State.countPayload_frameOffset : s.countPayload.frameOffset = s.frameOffset := rfl
@[simp] theorem State.countPayload_cursor : s.countPayload.cursor = s.cursor := rfl
@[simp] theorem State.countPayload_dataLength : s.countPayload.dataLength = s.dataLength := rfl
@[simp] theorem State.countPayload_offsetFlag : s.countPayload.offsetFlag = s.offsetFlag := rfl
@[simp] theorem State.countPayload_idLength : s.countPayload.idLength = s.idLength := rfl
@[simp] theorem State.countPayload_idCount : s.countPayload.idCount = s.idCount := rfl
@[simp] theorem State.countPayload_payloadCount : s.countPayload.payloadCount = s.payloadCount + 1 := rfl
@[simp] theorem State.countPayload_prevCodeFf : s.countPayload.prevCodeFf = s.prevCodeFf := rfl
@[simp] theorem State.countPayload_validPktCount : s.countPayload.validPktCount = s.validPktCount := rfl
@[simp] theorem State.countPayload_invalidPktCount : s.countPayload.invalidPktCount = s.invalidPktCount := rfl
@[simp] theorem State.countPayload_buf : s.countPayload.buf = s.buf := rfl
@[simp] theorem State.countPayload_bufEpoch : s.countPayload.bufEpoch = s.bufEpoch := rfl
@[simp] theorem State.countPayload_freeDraws : s.countPayload.freeDraws = s.freeDraws := rfl
@[simp] theorem State.countPayload_result : s.countPayload.result = s.result := rfl
@[simp] theorem State.countPayload_portOutcome : s.countPayload.portOutcome = s.portOutcome := rfl
@[simp] theorem State.countPayload_pending : s.countPayload.pending = s.pending := rfl

/-! ### State.resetFsm -/

@[simp] theorem State.resetFsm_cfg : s.resetFsm.cfg = s.cfg := rfl
@[simp] theorem State.resetFsm_fsm : s.resetFsm.fsm = .frameOffset := rfl
@[simp] theorem State.resetFsm_frameOffset : s.resetFsm.frameOffset = 0 := rfl
@[simp] theorem State.resetFsm_cursor : s.resetFsm.cursor = 0 := rfl
@[simp] theorem State.resetFsm_dataLength : s.resetFsm.dataLength = 0 := rfl
@[simp] theorem State.resetFsm_offsetFlag : s.resetFsm.offsetFlag = false := rfl
@[simp] theorem State.resetFsm_idLength : s.resetFsm.idLength = 0 := rfl
@[simp] theorem State.resetFsm_idCount : s.resetFsm.idCount = 0 := rfl
@[simp] theorem State.resetFsm_payloadCount : s.resetFsm.payloadCount = 0 := rfl
@[simp] theorem State.resetFsm_prevCodeFf : s.resetFsm.prevCodeFf = false := rfl
@[simp] theorem State.resetFsm_validPktCount : s.resetFsm.validPktCount = s.validPktCount := rfl
@[simp] theorem State.resetFsm_invalidPktCount : s.resetFsm.invalidPktCount = s.invalidPktCount := rfl
@[simp] theorem State.resetFsm_buf : s.resetFsm.buf = s.buf := rfl
@[simp] theorem State.resetFsm_bufEpoch : s.resetFsm.bufEpoch = s.bufEpoch := rfl
@[simp] theorem State.resetFsm_freeDraws : s.resetFsm.freeDraws = s.freeDraws := rfl
@[simp] theorem State.resetFsm_result : s.resetFsm.result = s.result := rfl
@[simp] theorem State.resetFsm_portOutcome : s.resetFsm.portOutcome = s.portOutcome := rfl
@[simp] theorem State.resetFsm_pending : s.resetFsm.pending = s.pending := rfl

/-! ### State.countValid -/

@[simp] theorem State.countValid_cfg : s.countValid.cfg = s.cfg := rfl
@[simp] theorem State.countValid_fsm : s.countValid.fsm = s.fsm := rfl
@[simp] theorem State.countValid_frameOffset : s.countValid.frameOffset = s.frameOffset := rfl
@[simp] theorem State.countValid_cursor : s.countValid.cursor = s.cursor := rfl
@[simp] theorem State.countValid_dataLength : s.countValid.dataLength = s.dataLength := rfl
@[simp] theorem State.countValid_offsetFlag : s.countValid.offsetFlag = s.offsetFlag := rfl
@[simp] theorem State.countValid_idLength : s.countValid.idLength = s.idLength := rfl
@[simp] theorem State.countValid_idCount : s.countValid.idCount = s.idCount := rfl
@[simp] theorem State.countValid_payloadCount : s.countValid.payloadCount = s.payloadCount := rfl
@[simp] theorem State.countValid_prevCodeFf : s.countValid.prevCodeFf = s.prevCodeFf := rfl
@[simp] theorem State.countValid_validPktCount : s.countValid.validPktCount = satInc s.cfg s.validPktCount := rfl
@[simp] theorem State.countValid_invalidPktCount : s.countValid.invalidPktCount = s.invalidPktCount := rfl
@[simp] theorem State.countValid_buf : s.countValid.buf = s.buf := rfl
@[simp] theorem State.countValid_bufEpoch : s.countValid.bufEpoch = s.bufEpoch := rfl
@[simp] theorem State.countValid_freeDraws : s.countValid.freeDraws = s.freeDraws := rfl
@[simp] theorem State.countValid_result : s.countValid.result = s.result := rfl
@[simp] theorem State.countValid_portOutcome : s.countValid.portOutcome = s.portOutcome := rfl
@[simp] theorem State.countValid_pending : s.countValid.pending = s.pending := rfl

/-! ### State.countInvalid -/

@[simp] theorem State.countInvalid_cfg : s.countInvalid.cfg = s.cfg := rfl
@[simp] theorem State.countInvalid_fsm : s.countInvalid.fsm = s.fsm := rfl
@[simp] theorem State.countInvalid_frameOffset : s.countInvalid.frameOffset = s.frameOffset := rfl
@[simp] theorem State.countInvalid_cursor : s.countInvalid.cursor = s.cursor := rfl
@[simp] theorem State.countInvalid_dataLength : s.countInvalid.dataLength = s.dataLength := rfl
@[simp] theorem State.countInvalid_offsetFlag : s.countInvalid.offsetFlag = s.offsetFlag := rfl
@[simp] theorem State.countInvalid_idLength : s.countInvalid.idLength = s.idLength := rfl
@[simp] theorem State.countInvalid_idCount : s.countInvalid.idCount = s.idCount := rfl
@[simp] theorem State.countInvalid_payloadCount : s.countInvalid.payloadCount = s.payloadCount := rfl
@[simp] theorem State.countInvalid_prevCodeFf : s.countInvalid.prevCodeFf = s.prevCodeFf := rfl
@[simp] theorem State.countInvalid_validPktCount : s.countInvalid.validPktCount = s.validPktCount := rfl
@[simp] theorem State.countInvalid_invalidPktCount : s.countInvalid.invalidPktCount = satInc s.cfg s.invalidPktCount := rfl
@[simp] theorem State.countInvalid_buf : s.countInvalid.buf = s.buf := rfl
@[simp] theorem State.countInvalid_bufEpoch : s.countInvalid.bufEpoch = s.bufEpoch := rfl
@[simp] theorem State.countInvalid_freeDraws : s.countInvalid.freeDraws = s.freeDraws := rfl
@[simp] theorem State.countInvalid_result : s.countInvalid.result = s.result := rfl
@[simp] theorem State.countInvalid_portOutcome : s.countInvalid.portOutcome = s.portOutcome := rfl
@[simp] theorem State.countInvalid_pending : s.countInvalid.pending = s.pending := rfl

/-! ### State.renew -/

@[simp] theorem State.renew_cfg (c : Config) : (s.renew c).cfg = c := rfl
@[simp] theorem State.renew_fsm (c : Config) : (s.renew c).fsm = .frameOffset := rfl
@[simp] theorem State.renew_frameOffset (c : Config) : (s.renew c).frameOffset = 0 := rfl
@[simp] theorem State.renew_cursor (c : Config) : (s.renew c).cursor = 0 := rfl
@[simp] theorem State.renew_dataLength (c : Config) : (s.renew c).dataLength = 0 := rfl
@[simp] theorem State.renew_offsetFlag (c : Config) : (s.renew c).offsetFlag = false := rfl
@[simp] theorem State.renew_idLength (c : Config) : (s.renew c).idLength = 0 := rfl
@[simp] theorem State.renew_idCount (c : Config) : (s.renew c).idCount = 0 := rfl
@[simp] theorem State.renew_payloadCount (c : Config) : (s.renew c).payloadCount = 0 := rfl
@[simp] theorem State.renew_prevCodeFf (c : Config) : (s.renew c).prevCodeFf = false := rfl
@[simp] theorem State.renew_validPktCount (c : Config) : (s.renew c).validPktCount = 0 := rfl
@[simp] theorem State.renew_invalidPktCount (c : Config) : (s.renew c).invalidPktCount = 0 := rfl
@[simp] theorem State.renew_buf (c : Config) : (s.renew c).buf = [] := rfl
@[simp] theorem State.renew_bufEpoch (c : Config) : (s.renew c).bufEpoch = s.bufEpoch + 1 := rfl
@[simp] theorem State.renew_freeDraws (c : Config) : (s.renew c).freeDraws = s.freeDraws := rfl
@[simp] theorem State.renew_result (c : Config) : (s.renew c).result = s.result := rfl
@[simp] theorem State.renew_portOutcome (c : Config) : (s.renew c).portOutcome = s.portOutcome := rfl
@[simp] theorem State.renew_pending (c : Config) : (s.renew c).pending = s.pending := rfl

/-! ### State.drawFree -/

@[simp] theorem State.drawFree_cfg : s.drawFree.cfg = s.cfg := rfl
@[simp] theorem State.drawFree_fsm : s.drawFree.fsm = s.fsm := rfl
@[simp] theorem State.drawFree_frameOffset : s.drawFree.frameOffset = s.frameOffset := rfl
@[simp] theorem State.drawFree_cursor : s.drawFree.cursor = s.cursor := rfl
@[simp] theorem State.drawFree_dataLength : s.drawFree.dataLength = s.dataLength := rfl
@[simp] theorem State.drawFree_offsetFlag : s.drawFree.offsetFlag = s.offsetFlag := rfl
@[simp] theorem State.drawFree_idLength : s.drawFree.idLength = s.idLength := rfl
@[simp] theorem State.drawFree_idCount : s.drawFree.idCount = s.idCount := rfl
@[simp] theorem State.drawFree_payloadCount : s.drawFree.payloadCount = s.payloadCount := rfl
@[simp] theorem State.drawFree_prevCodeFf : s.drawFree.prevCodeFf = s.prevCodeFf := rfl
@[simp] theorem State.drawFree_validPktCount : s.drawFree.validPktCount = s.validPktCount := rfl
@[simp] theorem State.drawFree_invalidPktCount : s.drawFree.invalidPktCount = s.invalidPktCount := rfl
@[simp] theorem State.drawFree_buf : s.drawFree.buf = s.buf := rfl
@[simp] theorem State.drawFree_bufEpoch : s.drawFree.bufEpoch = s.bufEpoch := rfl
@[simp] theorem State.drawFree_freeDraws : s.drawFree.freeDraws = s.freeDraws + 1 := rfl
@[simp] theorem State.drawFree_result : s.drawFree.result = s.result := rfl
@[simp] theorem State.drawFree_portOutcome : s.drawFree.portOutcome = s.portOutcome := rfl
@[simp] theorem State.drawFree_pending : s.drawFree.pending = s.pending := rfl

/-! ### State.dequeue -/

@[simp] theorem State.dequeue_cfg (q : List Issue) : (s.dequeue q).cfg = s.cfg := rfl
@[simp] theorem State.dequeue_fsm (q : List Issue) : (s.dequeue q).fsm = s.fsm := rfl
@[simp] theorem State.dequeue_frameOffset (q : List Issue) : (s.dequeue q).frameOffset = s.frameOffset := rfl
@[simp] theorem State.dequeue_cursor (q : List Issue) : (s.dequeue q).cursor = s.cursor := rfl
@[simp] theorem State.dequeue_dataLength (q : List Issue) : (s.dequeue q).dataLength = s.dataLength := rfl
@[simp] theorem State.dequeue_offsetFlag (q : List Issue) : (s.dequeue q).offsetFlag = s.offsetFlag := rfl
@[simp] theorem State.dequeue_idLength (q : List Issue) : (s.dequeue q).idLength = s.idLength := rfl
@[simp] theorem State.dequeue_idCount (q : List Issue) : (s.dequeue q).idCount = s.idCount := rfl
@[simp] theorem State.dequeue_payloadCount (q : List Issue) : (s.dequeue q).payloadCount = s.payloadCount := rfl
@[simp] theorem State.dequeue_prevCodeFf (q : List Issue) : (s.dequeue q).prevCodeFf = s.prevCodeFf := rfl
@[simp] theorem State.dequeue_validPktCount (q : List Issue) : (s.dequeue q).validPktCount = s.validPktCount := rfl
@[simp] theorem State.dequeue_invalidPktCount (q : List Issue) : (s.dequeue q).invalidPktCount = s.invalidPktCount := rfl
@[simp] theorem State.dequeue_buf (q : List Issue) : (s.dequeue q).buf = s.buf := rfl
@[simp] theorem State.dequeue_bufEpoch (q : List Issue) : (s.dequeue q).bufEpoch = s.bufEpoch := rfl
@[simp] theorem State.dequeue_freeDraws (q : List Issue) : (s.dequeue q).freeDraws = s.freeDraws := rfl
@[simp] theorem State.dequeue_result (q : List Issue) : (s.dequeue q).result = s.result := rfl
@[simp] theorem State.dequeue_portOutcome (q : List Issue) : (s.dequeue q).portOutcome = s.portOutcome := rfl
@[simp] theorem State.dequeue_pending (q : List Issue) : (s.dequeue q).pending = q := rfl

end Sys2Proof.Machine
end

