-- ==== Sys2Proof/Laws/Memory.lean ====
section
/-! SUPPORT. BUF as a memory: reading after writing, the canonical form, and the memory of the reset state. -/

namespace Sys2Proof.Machine

/-- Read after write at the same address gives the byte written. -/
@[simp] theorem Memory.read?_write_same (m : Memory) (a : Nat) (x : Byte) :
    Memory.read? (Memory.write m a x) a = some x := by
  induction m with
  | nil => simp [Memory.write, Memory.read?]
  | cons c m ih =>
    obtain ⟨k, v⟩ := c
    rcases lt_trichotomy a k with h | h | h
    · simp [Memory.write, Memory.read?, h]
    · simp [Memory.write, Memory.read?, h]
    · simp [Memory.write, Memory.read?, ih, Nat.not_lt.mpr (Nat.le_of_lt h), Nat.ne_of_gt h, Nat.ne_of_lt h]

/-- A write leaves every other address alone. -/
theorem Memory.read?_write_other (m : Memory) (a b : Nat) (x : Byte) (hab : b ≠ a) :
    Memory.read? (Memory.write m a x) b = Memory.read? m b := by
  induction m with
  | nil => simp [Memory.write, Memory.read?, hab.symm]
  | cons c m ih =>
    obtain ⟨k, v⟩ := c
    rcases lt_trichotomy a k with h | h | h
    · simp [Memory.write, Memory.read?, h, hab.symm]
    · subst h
      simp [Memory.write, Memory.read?, hab.symm]
    · have h1 : ¬ a < k := Nat.not_lt.mpr (Nat.le_of_lt h)
      simp [Memory.write, Memory.read?, h1, Nat.ne_of_gt h, ih]

/-- The canonical form says that every later address is above the first. -/
theorem Memory.wf_cons_iff (a : Nat) (v : Byte) (m : Memory) :
    Memory.wf ((a, v) :: m) = true ↔ (∀ c ∈ m, a < c.1) ∧ Memory.wf m = true := by
  induction m generalizing a v with
  | nil => simp [Memory.wf]
  | cons c m ih =>
    obtain ⟨b, w⟩ := c
    simp only [Memory.wf, Bool.and_eq_true, decide_eq_true_eq, List.mem_cons, forall_eq_or_imp]
    constructor
    · rintro ⟨hab, hw⟩
      exact ⟨⟨hab, fun c hc => lt_trans hab (((ih b w).mp hw).1 c hc)⟩, hw⟩
    · rintro ⟨⟨hab, _⟩, hw⟩
      exact ⟨hab, hw⟩

/-- The addresses of a written memory are the old ones and the one written. -/
theorem Memory.mem_write {m : Memory} {a : Nat} {x : Byte} {c : Host.Cell} (h : c ∈ Memory.write m a x) :
    c.1 = a ∨ c ∈ m := by
  induction m with
  | nil => simp_all [Memory.write]
  | cons d m ih =>
    obtain ⟨k, v⟩ := d
    simp only [Memory.write] at h
    split at h
    · rcases List.mem_cons.mp h with rfl | h
      · exact .inl rfl
      · exact .inr h
    · split at h
      · rcases List.mem_cons.mp h with rfl | h
        · exact .inl rfl
        · exact .inr (List.mem_cons_of_mem _ h)
      · rcases List.mem_cons.mp h with rfl | h
        · exact .inr (List.mem_cons_self ..)
        · rcases ih h with h | h
          · exact .inl h
          · exact .inr (List.mem_cons_of_mem _ h)

/-- A write keeps the canonical form. -/
theorem Memory.write_wf {m : Memory} (h : Memory.wf m = true) (a : Nat) (x : Byte) :
    Memory.wf (Memory.write m a x) = true := by
  induction m with
  | nil => rfl
  | cons c m ih =>
    obtain ⟨k, v⟩ := c
    obtain ⟨hk, hm⟩ := (Memory.wf_cons_iff k v m).mp h
    simp only [Memory.write]
    split
    · rename_i hak
      refine (Memory.wf_cons_iff _ _ _).mpr ⟨?_, h⟩
      intro c hc
      rcases List.mem_cons.mp hc with rfl | hc
      · exact hak
      · exact lt_trans hak (hk c hc)
    · split
      · rename_i hak
        subst hak
        exact (Memory.wf_cons_iff _ _ _).mpr ⟨hk, hm⟩
      · rename_i h1 h2
        refine (Memory.wf_cons_iff _ _ _).mpr ⟨?_, ih hm⟩
        intro c hc
        rcases Memory.mem_write hc with rfl | hc
        · exact Nat.lt_of_le_of_ne (Nat.not_lt.mp h1) (Ne.symm h2)
        · exact hk c hc

/-- FEED's store keeps the canonical form. -/
theorem State.store_buf_wf {s : State} (h : Memory.wf s.buf = true) (x : Byte) : Memory.wf (s.store x).buf = true :=
  Memory.write_wf h _ _

/-- NEW leaves the canonical form. -/
theorem State.renew_buf_wf (s : State) (c : Config) : Memory.wf (s.renew c).buf = true := rfl

/-- The reset state's memory has the canonical form. -/
theorem reset_buf_wf : Memory.wf State.reset.buf = true := rfl

/-- The byte just stored is read back. -/
theorem State.bufByte_store_same (s : State) (x : Byte) : (s.store x).bufByte s.cursor = x := by
  simp [State.bufByte]

/-- A store leaves every other byte of BUF as it read before. -/
theorem State.bufByte_store_other (s : State) (x : Byte) {a : Nat} (h : a ≠ s.cursor) :
    (s.store x).bufByte a = s.bufByte a := by
  simp [State.bufByte, Memory.read?_write_other _ _ _ _ h]

/-- Two states with the same BUF and the same unwritten bytes read alike. -/
theorem State.bufByte_congr {s t : State} (hb : s.buf = t.buf) (he : s.bufEpoch = t.bufEpoch) (a : Nat) :
    s.bufByte a = t.bufByte a := by
  simp [State.bufByte, hb, he]

/-- A span has the length asked for. -/
@[simp] theorem State.length_span (s : State) (n : Nat) : (s.span n).length = n := by
  simp [State.span]

end Sys2Proof.Machine
end

