-- ==== Sys2Proof/Laws/Ops.lean ====
section
/-! SUPPORT. One lemma per shared operation that says everything it can do; later proofs cite these and do not unfold
the operations. -/

namespace Sys2Proof.Machine

/-! ### Answers of pure functions -/

@[simp] theorem needLength_of_le {α : Type} {p : Bytes} {n : Nat} (r : Ret α) (h : n ≤ p.length) :
    needLength p n r = r := by
  simp [needLength, Nat.not_lt.mpr h]

@[simp] theorem needLength_of_lt {α : Type} {p : Bytes} {n : Nat} (r : Ret α) (h : p.length < n) :
    needLength p n r = .refuse .viewTooShort := by
  simp [needLength, h]

@[simp] theorem Ret.bind_ok {α β : Type} (a : α) (f : α → Ret β) : (Ret.ok a).bind f = f a := rfl
@[simp] theorem Ret.bind_raise {α β : Type} (e : Err) (f : α → Ret β) : (Ret.raise e).bind f = .raise e := rfl
@[simp] theorem Ret.bind_refuse {α β : Type} (r : Refusal) (f : α → Ret β) : (Ret.refuse r).bind f = .refuse r := rfl

@[simp] theorem deliver_ok {α : Type} (f : α → Result) (a : α) (s : State) :
    deliver f (.ok a) s = .next (s.finish (f a)) := rfl
@[simp] theorem deliver_raise {α : Type} (f : α → Result) (e : Err) (s : State) :
    deliver f (.raise e) s = .next (s.raiseError e) := rfl
@[simp] theorem deliver_refuse {α : Type} (f : α → Result) (r : Refusal) (s : State) :
    deliver f (.refuse r) s = .refused r := rfl
@[simp] theorem deliverView_ok (p p' : Bytes) (s : State) :
    deliverView p (.ok p') s = .next (s.finish (.view none p')) := rfl
@[simp] theorem deliverView_raise (p : Bytes) (e : Err) (s : State) :
    deliverView p (.raise e) s = .next (s.finish (.view (some e) p)) := rfl
@[simp] theorem deliverView_refuse (p : Bytes) (r : Refusal) (s : State) :
    deliverView p (.refuse r) s = .refused r := rfl

/-- A delivered pure function that answers a next state changes nothing but the result. -/
theorem deliver_next {α : Type} {f : α → Result} {r : Ret α} {s t : State} (h : deliver f r s = .next t) :
    ∃ v, t = s.finish v := by
  cases r with
  | ok a => exact ⟨f a, by simpa using h.symm⟩
  | raise e => exact ⟨.error e, by simpa [State.raiseError] using h.symm⟩
  | refuse why => simp at h

/-- A builder operation that answers a next state changes nothing but the result. -/
theorem deliverView_next {p : Bytes} {r : Ret Bytes} {s t : State} (h : deliverView p r s = .next t) :
    ∃ v, t = s.finish v := by
  cases r with
  | ok a => exact ⟨_, by simpa using h.symm⟩
  | raise e => exact ⟨_, by simpa using h.symm⟩
  | refuse why => simp at h

/-! ### FEED (R196) -/

/-- FEED fails exactly when the buffer is full; else it stores. -/
theorem feed_cases (x : Byte) (s : State) :
    (s.cfg.cap ≤ s.cursor ∧ feed x s = none) ∨ (s.cursor < s.cfg.cap ∧ feed x s = some (s.store x)) := by
  rcases Nat.lt_or_ge s.cursor s.cfg.cap with h | h
  · exact .inr ⟨h, by simp [feed, bufferFull, h]⟩
  · exact .inl ⟨h, by simp [feed, bufferFull, h]⟩

theorem feed_of_lt {x : Byte} {s : State} (h : s.cursor < s.cfg.cap) : feed x s = some (s.store x) := by
  simp [feed, bufferFull, h]

theorem feed_of_ge {x : Byte} {s : State} (h : s.cfg.cap ≤ s.cursor) : feed x s = none := by
  simp [feed, bufferFull, h]

theorem onFeed_of_lt {x : Byte} {s : State} (k : State → State × DecodeOutcome) (h : s.cursor < s.cfg.cap) :
    onFeed x s k = k (s.store x) := by
  simp [onFeed, feed_of_lt h]

theorem onFeed_of_ge {x : Byte} {s : State} (k : State → State × DecodeOutcome) (h : s.cfg.cap ≤ s.cursor) :
    onFeed x s k = (s, .error .insufficientBufferSize) := by
  simp [onFeed, feed_of_ge h]

/-! ### UNSTUFF (R110 to R112) -/

/-- UNSTUFF either counts down and passes the byte through, or loads it as a code byte and hands on a zero, or (R112)
loads it and hands on nothing. -/
theorem unstuff_cases (b : Byte) (s : State) :
    (1 < s.frameOffset.toNat ∧ unstuff b s = (s.setFrameOffset (s.frameOffset - 1), some b)) ∨
    (s.frameOffset.toNat ≤ 1 ∧ s.cfg.ffBlockException = false ∧ unstuff b s = (s.setFrameOffset b, some 0#8)) ∨
    (s.frameOffset.toNat ≤ 1 ∧ s.cfg.ffBlockException = true ∧ s.prevCodeFf = false ∧
      unstuff b s = ((s.setFrameOffset b).setPrevCodeFf (isFfCode b), some 0#8)) ∨
    (s.frameOffset.toNat ≤ 1 ∧ s.cfg.ffBlockException = true ∧ s.prevCodeFf = true ∧
      unstuff b s = ((s.setFrameOffset b).setPrevCodeFf (isFfCode b), none)) := by
  rcases Nat.lt_or_ge 1 s.frameOffset.toNat with h | h
  · refine .inl ⟨h, ?_⟩
    cases hc : s.cfg.ffBlockException <;> simp [unstuff, unstuffDefault, unstuffException, hc, h]
  · have h' : ¬ 1 < s.frameOffset.toNat := Nat.not_lt.mpr h
    cases hc : s.cfg.ffBlockException
    · exact .inr (.inl ⟨h, rfl, by simp [unstuff, unstuffDefault, hc, h']⟩)
    · cases hp : s.prevCodeFf
      · exact .inr (.inr (.inl ⟨h, rfl, rfl, by simp [unstuff, unstuffException, hc, h', hp]⟩))
      · exact .inr (.inr (.inr ⟨h, rfl, rfl, by simp [unstuff, unstuffException, hc, h', hp]⟩))

/-- UNSTUFF writes the countdown and its flag, nothing else (R110). -/
theorem unstuff_frame (b : Byte) (s : State) :
    ∃ v f, (unstuff b s).1 = (s.setFrameOffset v).setPrevCodeFf f ∧ (s.cfg.ffBlockException = false → f = s.prevCodeFf) := by
  rcases unstuff_cases b s with ⟨_, h⟩ | ⟨_, hc, h⟩ | ⟨_, hc, _, h⟩ | ⟨_, hc, _, h⟩
  · exact ⟨s.frameOffset - 1, s.prevCodeFf, by rw [h]; rfl, fun _ => rfl⟩
  · exact ⟨b, s.prevCodeFf, by rw [h]; rfl, fun _ => rfl⟩
  · exact ⟨_, _, by rw [h], by simp [hc]⟩
  · exact ⟨_, _, by rw [h], by simp [hc]⟩

/-! ### DECODE (R180) -/

theorem decodeByte_delimiter (s : State) : decodeByte delimiter s = (s.resetFsm, .none) := by
  simp [decodeByte, decodeDelimiter]

theorem decodeByte_of_ne {b : Byte} (h : b ≠ delimiter) (s : State) :
    decodeByte b s = afterUnstuff (inState s.fsm) b s := by
  simp [decodeByte, h]

theorem afterUnstuff_some {rule : Byte → State → State × DecodeOutcome} {b x : Byte} {s u : State}
    (h : unstuff b s = (u, some x)) : afterUnstuff rule b s = rule x u := by
  simp [afterUnstuff, h]

theorem afterUnstuff_none {rule : Byte → State → State × DecodeOutcome} {b : Byte} {s u : State}
    (h : unstuff b s = (u, none)) : afterUnstuff rule b s = (u, .none) := by
  simp [afterUnstuff, h]

/-- A dispatch row answers a next state exactly when its byte is no delimiter and the state selects it. -/
theorem runRow_next {b : Byte} {sel : Bool} {rule : Byte → State → State × DecodeOutcome} {s t : State}
    (h : runRow b sel rule s = .next t) :
    b ≠ delimiter ∧ sel = true ∧ t = finishOutcome (afterUnstuff rule b s) := by
  unfold runRow at h
  split at h
  · cases h
  · split at h
    · exact ⟨‹_›, ‹_›, by simpa using h.symm⟩
    · cases h

theorem runRow_of_selected {b : Byte} {rule : Byte → State → State × DecodeOutcome} {s : State}
    (hb : b ≠ delimiter) : runRow b true rule s = .next (finishOutcome (afterUnstuff rule b s)) := by
  simp [runRow, hb]

@[simp] theorem decodeBytes_nil (s : State) : decodeBytes [] s = (s, []) := rfl

theorem decodeBytes_cons (b : Byte) (bs : Bytes) (s : State) :
    decodeBytes (b :: bs) s =
      ((decodeBytes bs (finishOutcome (decodeByte b s))).1,
        if (decodeByte b s).2 = .none then (decodeBytes bs (finishOutcome (decodeByte b s))).2
        else (decodeByte b s).2 :: (decodeBytes bs (finishOutcome (decodeByte b s))).2) := rfl

/-- A stream cut in two is fed one part after the other (R56). -/
theorem decodeBytes_append (a b : Bytes) (s : State) :
    decodeBytes (a ++ b) s =
      ((decodeBytes b (decodeBytes a s).1).1, (decodeBytes a s).2 ++ (decodeBytes b (decodeBytes a s).1).2) := by
  induction a generalizing s with
  | nil => simp
  | cons x a ih =>
    simp only [List.cons_append, decodeBytes_cons, ih]
    split <;> simp

/-! ### The ports (R35, R58) -/

/-- A DECODE's outcome is its result and what the ports show. -/
@[simp] theorem finishOutcome_portOutcome (r : State × DecodeOutcome) : (finishOutcome r).portOutcome = r.2 := rfl
@[simp] theorem finishOutcome_result (r : State × DecodeOutcome) : (finishOutcome r).result = .outcome r.2 := rfl

/-- Inside the span just received the read port shows BUF. -/
theorem State.rdData_of_lt {s : State} {a : Nat} (h : a < s.readable) : s.rdData a = s.bufByte a := by
  simp [State.rdData, h]

/-- The bytes the host may read depend on the ports' outcome alone. -/
theorem State.readable_congr {s t : State} (h : s.portOutcome = t.portOutcome) : s.readable = t.readable := by
  simp [State.readable, h]

/-! ### The wire (R71, R72, R83) -/

/-- Every byte string on the wire decodes to a row that runs: the delimiter, a frame, or the stream itself. -/
theorem decodeWire_cases (bs : Bytes) :
    (bs = [delimiter] ∧ decodeWire bs = .ok .delim) ∨
    (∃ body, bs = body ++ [delimiter] ∧ bodyWellFormed body = true ∧ decodeWire bs = .ok (.frame body)) ∨
    (wireRow bs = none ∧ decodeWire bs = .ok (.feedStream bs)) := by
  by_cases h : bs = [delimiter]
  · exact .inl ⟨h, by simp [decodeWire, wireRow, h]⟩
  · by_cases h' : bs.getLast? = some delimiter ∧ bodyWellFormed bs.dropLast = true
    · refine .inr (.inl ⟨bs.dropLast, ?_, h'.2, by simp [decodeWire, wireRow, h, h']⟩)
      exact (List.dropLast_append_getLast? _ h'.1).symm
    · exact .inr (.inr ⟨by simp only [wireRow, h, h', if_false], by simp only [decodeWire, wireRow, h, h', if_false]; rfl⟩)

/-! ### The step (R10, R56) -/

theorem step_of_nil {s : State} (h : s.pending = []) : step s = .next s := by
  simp [step, h, exec, execIdle]

theorem step_of_fetch {s : State} {q : Issue} {rest : List Issue} {i : Instr} (h : s.pending = q :: rest)
    (hq : fetch q = .ok i) : step s = exec i (s.dequeue rest) := by
  simp [step, h, hq]

/-- Everything a step can do. -/
theorem step_next {s t : State} (h : step s = .next t) :
    (s.pending = [] ∧ t = s) ∨
    ∃ q rest i, s.pending = q :: rest ∧ fetch q = .ok i ∧ exec i (s.dequeue rest) = .next t := by
  unfold step at h
  split at h
  · rename_i hp
    exact .inl ⟨hp, by simpa [exec, execIdle] using h.symm⟩
  · rename_i q rest hp
    split at h
    · rename_i i hi
      exact .inr ⟨q, rest, i, hp, hi, h⟩
    · cases h

end Sys2Proof.Machine
end

