-- ==== Sys2Proof/Tests/Slice0.lean ====
section
/-! SUPPORT. The package's own tests: ill-formed terms refused by WellFormed, every encoding written out from the spec,
one-step tests from the vectors of spec/95_test_vectors.md, and a witness for the hypotheses of every statement. -/

namespace Sys2Proof.Tests

open Sys2Proof Sys2Proof.Machine

/-! ### Helpers -/

/-- The result an instruction leaves in a state, when it answers a next state. -/
def resultOf (i : Instr) (s : State) : Option Result :=
  match exec i s with
  | .next t => some t.result
  | _ => none

/-- The refusal an instruction ends in. -/
def refusalOf (i : Instr) (s : State) : Option Refusal :=
  match exec i s with
  | .refused r => some r
  | _ => none

/-- A trace line of R83: outcome, `state`, the seven working registers, the two counters. -/
structure Line where
  result : Result
  fsm : FsmState
  frameOffset : BitVec 8
  cursor : Nat
  dataLength : BitVec 10
  offsetFlag : Bool
  idLength : BitVec 4
  idCount : BitVec 4
  payloadCount : BitVec 10
  valid : Nat
  invalid : Nat
  deriving DecidableEq, Repr

/-- The trace line after an instruction. -/
def lineOf (i : Instr) (s : State) : Option Line :=
  match exec i s with
  | .next t => some ⟨t.result, t.fsm, t.frameOffset, t.cursor, t.dataLength, t.offsetFlag, t.idLength, t.idCount,
      t.payloadCount, t.validPktCount, t.invalidPktCount⟩
  | _ => none

/-- The configuration with a capacity and the two policies, counters of 2 bits. -/
def cfgWith (cap : Nat) (ff reject : Bool) (h : 5 ≤ cap := by decide) : Config :=
  { cap := cap, cntW := 2, ffBlockException := ff, rejectUnknownType := reject, cap_ge := h, cntW_pos := by decide }

/-- A state in the middle of a frame: registers in the trace order of R83, and the bytes stored so far. -/
def mid (st : FsmState) (fo : BitVec 8) (dl : BitVec 10) (off : Bool) (idl ic : BitVec 4) (pc : BitVec 10)
    (stored : Bytes) : State :=
  { State.reset with
    fsm := st, frameOffset := fo, cursor := stored.length, dataLength := dl, offsetFlag := off, idLength := idl,
    idCount := ic, payloadCount := pc, buf := (List.range stored.length).zip stored }

/-- The packet of V1. -/
def v1 : Bytes := [0x01, 0x14, 0x63, 0x61, 0x62, 0x63, 0x2A, 0xB8, 0xA3]

/-- The frame of V1. -/
def v1Frame : Bytes := [0x0A, 0x01, 0x14, 0x63, 0x61, 0x62, 0x63, 0x2A, 0xB8, 0xA3, 0x00]

/-- The arguments of PKT in V1. -/
def v1Args : PktArgs := { id := [0x61, 0x62, 0x63], payload := [0x2A], type := .int8, internal := false,
                          offset := false, response := false, acknum := 3 }

/-- V1 in state CrcB1, one byte before completion (P1). -/
def v1Last : State := mid .crcB1 2 1 false 3 3 1 (v1.take 8)

/-- The V1 packet by its fields. -/
def v1Fields : PacketFields := { typeCode := 5, internal := false, offset := false, response := false, acknum := 3,
                                 msgId := [0x61, 0x62, 0x63], payload := [0x2A], checksum := 0xA3B8 }

/-! ### WellFormed: a term that each check refuses -/

theorem test_wf_delimiter_operands : ∀ i ∈ [Instr.decodeFrameOffset 0, .decodeHeaderB0 0, .decodeHeaderB1 0,
    .decodeHeaderB2 0, .decodeMsgId 0, .decodeOffsetB0 0, .decodeOffsetB1 0, .decodePayload 0, .decodeCrcB0 0,
    .decodeCrcB1 0, .decodeCodeAfterFf 0, .decodeFull 0, .unstuff 0, .unstuffFf 0], wellFormed i = false := by decide

/-- R101: an empty body, a delimiter inside, a code byte past the end. -/
theorem test_wf_frame : ∀ body ∈ [([] : Bytes), [0x02, 0x00], [0x05, 0x11, 0x22]],
    wellFormed (.frame body) = false := by decide

/-- R76, R74: no id byte, sixteen of them. -/
theorem test_wf_packet : wellFormed (.packet { v1Fields with msgId := [] }) = false ∧
    wellFormed (.packet { v1Fields with msgId := List.replicate 16 1 }) = false := by decide

theorem test_wf_packet_payload : wellFormed (.packet { v1Fields with payload := List.replicate 1024 1 }) = false := by
  decide +kernel

theorem test_wf_error_info : wellFormed (.errUnknownMessageType 12) = false := by decide

/-- U5: a view one byte short of what each getter reads. -/
theorem test_wf_short_views : ∀ i ∈ [Instr.getDataLength [1], .getOffset [1], .getType [1], .getInternal [1],
    .getIdLength [1, 2], .getResponse [1, 2], .getAcknum [1, 2], .wireSize [1, 2], .msgId (v1.take 5),
    .payload (v1.take 6), .computeChecksum (v1.take 6), .checksum (v1.take 8)], wellFormed i = false := by decide

/-- U1, U2, U5, U7, U16 and the view lengths of the setters. -/
theorem test_wf_setters : ∀ i ∈ [Instr.setDataLength [1] 1, .setDataLength v1 1024, .setOffset [1] true,
    .setInternal [1] true, .setType [1] .int8, .setType v1 (.unknown 16), .setIdLength [1, 2] 1,
    .setResponse [1, 2] true, .setAcknum [1, 2] 1, .setAcknum v1 8, .setMsgId [1, 2] [0x61], .setMsgId v1 [0x61],
    .setMsgId (v1.take 5) [0x61, 0x62, 0x63], .setPayload [1, 2] [], .setPayload [0, 0, 0, 0] [], .setPayload v1 [],
    .setPayload (v1.take 6) [0x2A], .setChecksum [1, 2] 0, .setChecksum (v1.take 8) 0], wellFormed i = false := by
  decide

theorem test_wf_pkt : wellFormed (.pkt { v1Args with acknum := 8 }) = false ∧
    wellFormed (.pkt { v1Args with type := .unknown 16 }) = false := by decide

theorem test_wf_pkt_payload : wellFormed (.pkt { v1Args with payload := List.replicate 1024 1 }) = false := by
  decide +kernel

/-! ### Encodings written out from the spec -/

/-- R35: `{rst, op_valid, op}`, then `in_byte`. -/
theorem test_decode_port : ∀ r ∈ [([0b100#8, 0#8], Instr.new none), ([0b111#8, 0x55#8], .new none),
    ([0b010#8, 0x0A#8], .decode 0x0A), ([0b011#8, 0x55#8], .reset), ([0b000#8, 0#8], .idle),
    ([0b001#8, 0x55#8], .idle)], decode .port r.1 = .ok r.2 := by decide

/-- R84 with the state codes of R21: byte 0 is the wire byte, byte 1 the state. -/
theorem test_decode_dispatch : ∀ r ∈ [([0x00#8, 0x04#8], Instr.decodeDelim), ([0x0A#8, 0x00#8], .decodeFrameOffset 0x0A),
    ([0x01#8, 0x01#8], .decodeHeaderB0 0x01), ([0x14#8, 0x02#8], .decodeHeaderB1 0x14),
    ([0x63#8, 0x03#8], .decodeHeaderB2 0x63), ([0x61#8, 0x04#8], .decodeMsgId 0x61),
    ([0x11#8, 0x05#8], .decodeOffsetB0 0x11), ([0x22#8, 0x06#8], .decodeOffsetB1 0x22),
    ([0x2A#8, 0x07#8], .decodePayload 0x2A), ([0xB8#8, 0x08#8], .decodeCrcB0 0xB8),
    ([0xA3#8, 0x09#8], .decodeCrcB1 0xA3)], decode .dispatch r.1 = .ok r.2 := by decide

/-- R72 and V1: a frame; R71: the delimiter. -/
theorem test_decode_wire : decode .wire v1Frame = .ok (.frame (v1Frame.take 10)) ∧ decode .wire [0x00#8] = .ok .delim := by
  decide

/-- R73, R54 and V1. -/
theorem test_decode_packet : decode .packet v1 = .ok (.packet v1Fields) := by decide

/-- R74, R75, R76, R78 and the bits of V1; B8 has every field of bytes 1 and 2 away from V1's. -/
theorem test_decode_header : decode .headerB0 [0x01#8] = .ok (.headerB0 1) ∧
    decode .headerB1 [0b00010100#8] = .ok (.headerB1 false false 5 0) ∧
    decode .headerB1 [0b11001110#8] = .ok (.headerB1 true true 3 2) ∧
    decode .headerB2 [0b01100011#8] = .ok (.headerB2 3 false 3) ∧
    decode .headerB2 [0b10110000#8] = .ok (.headerB2 5 true 0) ∧
    decode .checksumField [0xB8#8, 0xA3#8] = .ok (.checksumField 0xA3B8) := by decide

/-- R79. -/
theorem test_decode_type_codes : ∀ r ∈ [(0x0#8, Instr.typeCallback), (0x1#8, .typeCustom),
    (0x2#8, .typeOffsetMetadata), (0x3#8, .typeByte), (0x4#8, .typeChar), (0x5#8, .typeInt8), (0x6#8, .typeUInt8),
    (0x7#8, .typeInt16), (0x8#8, .typeUInt16), (0x9#8, .typeInt32), (0xA#8, .typeUInt32), (0xB#8, .typeFloat32),
    (0xC#8, .typeFloat64), (0xD#8, .typeUnknown13), (0xE#8, .typeUnknown14), (0xF#8, .typeUnknown15)],
    decode .typeCode [r.1] = .ok r.2 := by decide

/-- R21. -/
theorem test_decode_state_codes : ∀ r ∈ [(0#8, Instr.stateFrameOffset), (1#8, .stateHeaderB0), (2#8, .stateHeaderB1),
    (3#8, .stateHeaderB2), (4#8, .stateMsgId), (5#8, .stateOffsetB0), (6#8, .stateOffsetB1), (7#8, .statePayload),
    (8#8, .stateCrcB0), (9#8, .stateCrcB1)], decode .stateCode [r.1] = .ok r.2 := by decide

/-- R35. -/
theorem test_decode_outcome_codes : ∀ r ∈ [(0#8, Instr.outNone), (1#8, .outPacket), (2#8, .outError)],
    decode .outcomeCode [r.1] = .ok r.2 := by decide

/-- R240: `out_err` in bits 3:0, `out_info` in bits 7:4. -/
theorem test_decode_error_codes : ∀ r ∈ [(0x01#8, Instr.errMissingHeader), (0x02#8, .errMissingChecksum),
    (0x03#8, .errIncompletePayload), (0x04#8, .errInvalidDataLength), (0x05#8, .errInvalidMessageIdLength),
    (0x06#8, .errInvalidMessageId), (0xD7#8, .errUnknownMessageType 13), (0xF7#8, .errUnknownMessageType 15),
    (0x08#8, .errInvalidChecksum), (0x09#8, .errFramingDecodeError), (0x0A#8, .errInsufficientBufferSize)],
    decode .errorCode [r.1] = .ok r.2 := by decide

/-- R21, R35, R240, R80: what no rule produces is rejected by name. -/
theorem test_decode_rejects : decode .stateCode [10#8] = .error (.reservedCode .stateCode) ∧
    decode .outcomeCode [3#8] = .error (.reservedCode .outcomeCode) ∧
    decode .errorCode [0x00#8] = .error (.reservedCode .errorCode) ∧
    decode .errorCode [0xC7#8] = .error (.reservedCode .errorCode) ∧
    decode .dispatch [0x2A#8, 0x0A#8] = .error (.reservedCode .dispatch) ∧
    decode .typeCode [0x10#8] = .error (.badWidth .typeCode) := by decide

/-- R80, R83: a malformed body on the wire, a delimiter inside, and no final delimiter are fed byte by byte; R80: bytes that
are no packet go to VALIDATE. -/
theorem test_decode_malformed : (∀ bs ∈ [[0x05#8, 0x11#8, 0x22#8, 0x00#8], [0x02#8, 0x00#8, 0x00#8], [0x0A#8, 0x01#8], []],
    decode .wire bs = .ok (.feedStream bs) ∧ encode (.feedStream bs) = some (.wire, bs)) ∧
    (∀ p ∈ [v1.take 8, v1 ++ [0xFF], [0, 0, 0, 0x61, 0x76, 0xCB]],
      decode .packet p = .ok (.validate p) ∧ encode (.validate p) = some (.packet, p)) := by decide

/-- Bare table words: type code, dispatch word, frame, and a dispatch word with a state that is never produced. -/
theorem test_table_words : decodeTableWord 8 5 = some .typeInt8 ∧ decodeTableWord 16 0x072A = some (.decodePayload 0x2A) ∧
    decodeTableWord 16 0x0700 = some .decodeDelim ∧
    decodeTableWord 48 0x003302221103 = some (.frame [0x03, 0x11, 0x22, 0x02, 0x33]) ∧
    decodeTableWord 16 0x0A2A = none := by decide

/-- A table word runs as the first instruction after reset. -/
theorem test_fetch_word : (match step (State.reset.withFetchWord 16 0x000A) with
    | .next t => some (t.fsm, t.frameOffset, t.pending)
    | _ => none) = some (.headerB0, 10, []) := by decide

/-! ### One step, from the vectors (95_test_vectors.md) -/

/-- R181, R35. -/
theorem test_new : lineOf (.new none) v1Last = some ⟨.none, .frameOffset, 0, 0, 0, false, 0, 0, 0, 0, 0⟩ := by decide

/-- P1, first line. -/
theorem test_decode_frame_offset : lineOf (.decode 0x0A) State.reset =
    some ⟨.outcome .none, .headerB0, 10, 0, 0, false, 0, 0, 0, 0, 0⟩ := by decide

/-- F24: RESET inside a frame keeps the counters. -/
theorem test_reset : lineOf .reset { v1Last with validPktCount := 2, invalidPktCount := 1 } =
    some ⟨.none, .frameOffset, 0, 0, 0, false, 0, 0, 0, 2, 1⟩ := by decide

theorem test_reset_fsm : lineOf .resetFsm { v1Last with invalidPktCount := 1 } =
    some ⟨.none, .frameOffset, 0, 0, 0, false, 0, 0, 0, 0, 1⟩ := by decide

theorem test_idle : (match exec .idle v1Last with | .next t => some t | _ => none) = some v1Last := by decide

theorem test_counts : resultOf .count { State.reset with validPktCount := 3, invalidPktCount := 1 } = some (.number 3) ∧
    resultOf .invalidCount { State.reset with validPktCount := 3, invalidPktCount := 1 } = some (.number 1) := by decide

/-- F3: a delimiter in CrcB1 aborts silently. -/
theorem test_delim_aborts : lineOf .decodeDelim v1Last =
    some ⟨.outcome .none, .frameOffset, 0, 0, 0, false, 0, 0, 0, 0, 0⟩ ∧ lineOf .delim v1Last = lineOf .decodeDelim v1Last := by
  decide

/-- P1, lines 1 to 5. -/
theorem test_row_frame_offset : lineOf (.decodeFrameOffset 0x0A) State.reset =
    some ⟨.outcome .none, .headerB0, 10, 0, 0, false, 0, 0, 0, 0, 0⟩ := by decide
theorem test_row_header_b0 : lineOf (.decodeHeaderB0 0x01) (mid .headerB0 10 0 false 0 0 0 []) =
    some ⟨.outcome .none, .headerB1, 9, 1, 1, false, 0, 0, 0, 0, 0⟩ := by decide
theorem test_row_header_b1 : lineOf (.decodeHeaderB1 0x14) (mid .headerB1 9 1 false 0 0 0 [0x01]) =
    some ⟨.outcome .none, .headerB2, 8, 2, 1, false, 0, 0, 0, 0, 0⟩ := by decide
/-- P4: the offset flag. F24: the high bits of `data_length` (`0x62` after `0x61`). -/
theorem test_row_header_b1_fields :
    lineOf (.decodeHeaderB1 0x94) (mid .headerB1 11 1 false 0 0 0 [0x01]) =
      some ⟨.outcome .none, .headerB2, 10, 2, 1, true, 0, 0, 0, 0, 0⟩ ∧
    lineOf (.decodeHeaderB1 0x62) (mid .headerB1 98 97 false 0 0 0 [0x61]) =
      some ⟨.outcome .none, .headerB2, 97, 2, 609, false, 0, 0, 0, 0, 0⟩ := by decide
theorem test_row_header_b2 : lineOf (.decodeHeaderB2 0x63) (mid .headerB2 8 1 false 0 0 0 [0x01, 0x14]) =
    some ⟨.outcome .none, .msgId, 7, 3, 1, false, 3, 0, 0, 0, 0⟩ := by decide
/-- P1, lines 5 and 7. -/
theorem test_row_msg_id :
    lineOf (.decodeMsgId 0x61) (mid .msgId 7 1 false 3 0 0 (v1.take 3)) =
      some ⟨.outcome .none, .msgId, 6, 4, 1, false, 3, 1, 0, 0, 0⟩ ∧
    lineOf (.decodeMsgId 0x63) (mid .msgId 5 1 false 3 2 0 (v1.take 5)) =
      some ⟨.outcome .none, .payload, 4, 6, 1, false, 3, 3, 0, 0, 0⟩ := by decide
/-- P4 (offset flag) and P6 (`id_length` 0, no payload). -/
theorem test_row_msg_id_successors :
    lineOf (.decodeMsgId 0x63) (mid .msgId 7 1 true 3 2 0 (v1.take 5)) =
      some ⟨.outcome .none, .offsetB0, 6, 6, 1, true, 3, 3, 0, 0, 0⟩ ∧
    lineOf (.decodeMsgId 0x61) (mid .msgId 4 0 false 0 0 0 [0, 0, 0]) =
      some ⟨.outcome .none, .crcB0, 3, 4, 0, false, 0, 1, 0, 0, 0⟩ := by decide
/-- P4. -/
theorem test_row_offset_b0 : lineOf (.decodeOffsetB0 0x11) (mid .offsetB0 6 1 true 3 3 0 (v1.take 6)) =
    some ⟨.outcome .none, .offsetB1, 5, 6, 1, true, 3, 3, 0, 0, 0⟩ := by decide
theorem test_row_offset_b1 : lineOf (.decodeOffsetB1 0x22) (mid .offsetB1 5 1 true 3 3 0 (v1.take 6)) =
    some ⟨.outcome .none, .payload, 4, 6, 1, true, 3, 3, 0, 0, 0⟩ := by decide
/-- P2, lines 7 and 9: an implied zero is stored and the countdown reloaded; the last payload byte. -/
theorem test_row_payload :
    lineOf (.decodePayload 0x01) (mid .payload 1 3 false 2 2 0 [0x03, 0x0C, 0x02, 0x69, 0x64]) =
      some ⟨.outcome .none, .payload, 1, 6, 3, false, 2, 2, 1, 0, 0⟩ ∧
    lineOf (.decodePayload 0xFF) (mid .payload 4 3 false 2 2 2 [0x03, 0x0C, 0x02, 0x69, 0x64, 0x00, 0x00]) =
      some ⟨.outcome .none, .crcB0, 3, 8, 3, false, 2, 2, 3, 0, 0⟩ := by decide
theorem test_row_crc_b0 : lineOf (.decodeCrcB0 0xB8) (mid .crcB0 3 1 false 3 3 1 (v1.take 7)) =
    some ⟨.outcome .none, .crcB1, 2, 8, 1, false, 3, 3, 1, 0, 0⟩ := by decide
/-- P1: completion with a packet. -/
theorem test_row_crc_b1_packet : lineOf (.decodeCrcB1 0xA3) v1Last =
    some ⟨.outcome (.packet 9 v1), .frameOffset, 0, 0, 0, false, 0, 0, 0, 1, 0⟩ := by decide +kernel
/-- P3: completion with InvalidChecksum, the valid counter as it was. -/
theorem test_row_crc_b1_error :
    lineOf (.decodeCrcB1 0xA3) { mid .crcB1 2 1 false 3 3 1 [0x01, 0x14, 0x63, 0x61, 0x62, 0x63, 0x2B, 0xB8] with
      validPktCount := 1 } =
      some ⟨.outcome (.error .invalidChecksum), .frameOffset, 0, 0, 0, false, 0, 0, 0, 1, 1⟩ := by decide +kernel
/-- A46: the code byte after an `0xFF` block under FF_BLOCK_EXCEPTION. -/
theorem test_row_code_after_ff :
    lineOf (.decodeCodeAfterFf 0x02) { mid .payload 1 9 false 1 1 0 [9, 0, 1, 0x61] with
      cfg := cfgWith 64 true false, prevCodeFf := true } =
      some ⟨.outcome .none, .payload, 2, 4, 9, false, 1, 1, 0, 0, 0⟩ := by decide
/-- P5: the sixth stored byte of V1 does not fit in a buffer of 5. -/
theorem test_row_full :
    lineOf (.decodeFull 0x63) { mid .msgId 5 1 false 3 2 0 (v1.take 5) with cfg := cfgWith 5 false false } =
      some ⟨.outcome (.error .insufficientBufferSize), .msgId, 4, 5, 1, false, 3, 2, 0, 0, 0⟩ := by decide

/-- R196: FEED stores at `cursor`, or raises. -/
theorem test_feed : (match exec (.feed 0x2A) (mid .payload 4 1 false 3 3 0 (v1.take 6)) with
      | .next t => some (t.result, t.cursor, t.buf.getLast?)
      | _ => none) = some (.ok, 7, some (6, 0x2A)) ∧
    resultOf (.feed 1) { mid .msgId 5 1 false 3 2 0 (v1.take 5) with cfg := cfgWith 5 false false } =
      some (.error .insufficientBufferSize) := by decide

/-- A40: `frame_offset` 0 loads `03` and hands on a zero; 3 counts down and hands on `11`. -/
theorem test_unstuff : resultOf (.unstuff 0x03) State.reset = some (.reconstructed (some 0)) ∧
    resultOf (.unstuff 0x11) { State.reset with frameOffset := 3 } = some (.reconstructed (some 0x11)) := by decide
/-- A46: NOTHING after an `0xFF` block, and a code byte `0xFF` sets the flag. -/
theorem test_unstuff_ff :
    resultOf (.unstuffFf 0x02) { State.reset with cfg := cfgWith 64 true false, frameOffset := 1, prevCodeFf := true } =
      some (.reconstructed none) ∧
    (match exec (.unstuffFf 0xFF) { State.reset with cfg := cfgWith 64 true false } with
      | .next t => some (t.frameOffset, t.prevCodeFf, t.result)
      | _ => none) = some (255, true, .reconstructed (some 0)) := by decide

/-- V1 and P1: the whole frame. -/
theorem test_frame : lineOf (.frame (v1Frame.take 10)) State.reset =
    some ⟨.outcomes [.packet 9 v1], .frameOffset, 0, 0, 0, false, 0, 0, 0, 1, 0⟩ := by decide +kernel
/-- F19: the policy rejects type 15. -/
theorem test_feed_stream : lineOf (.feedStream [0x01, 0x04, 0x3C, 0xE1, 0x61, 0x02, 0x6B, 0x00])
    { State.reset with cfg := cfgWith 64 false true } =
    some ⟨.outcomes [.error (.unknownMessageType 15)], .frameOffset, 0, 0, 0, false, 0, 0, 0, 0, 1⟩ := by decide +kernel
/-- F23: the counters saturate at `2^CNT_W - 1`. -/
theorem test_saturation : (lineOf (.decodeCrcB1 0xA3) { v1Last with cfg := cfgWith 64 false false, validPktCount := 3 }).map
    (·.valid) = some 3 := by decide +kernel

/-- The layout rows and the codes deliver what they stand for. -/
theorem test_layout : resultOf (.packet v1Fields) State.reset = some (.packet v1Fields) ∧
    resultOf (.headerB0 1) State.reset = some (.headerB0 1) ∧
    resultOf (.headerB1 false false 5 0) State.reset = some (.headerB1 false false .int8 0) ∧
    resultOf (.headerB2 3 false 3) State.reset = some (.headerB2 3 false 3) ∧
    resultOf (.checksumField 0xA3B8) State.reset = some (.number 0xA3B8) := by decide

/-- R35, R58 and P1: the ports and the read port after a packet. -/
theorem test_ports : (match exec (.decode 0xA3) v1Last with
    | .next t => some (t.outKind, t.outLen, t.outErr, t.outInfo, t.rdData 8)
    | _ => none) = some (1, 9, 0, 0, 0xA3) := by decide +kernel
/-- R35, R240 and F19: the ports after a stream whose last DECODE ends in an error. -/
theorem test_ports_stream : (match exec (.feedStream [0x02, 0x6B]) { mid .crcB0 1 0 false 1 1 0 [0x00, 0x3C, 0xE1, 0x61] with
      cfg := cfgWith 64 false true } with
    | .next t => some (t.outKind, t.outLen, t.outErr, t.outInfo)
    | _ => none) = some (2, 0, 7, 15) := by decide +kernel

/-! Header parser: B1, B8, B20 to B24. -/

theorem test_getters_b8 : resultOf (.getDataLength [0x34, 0xCE, 0xA0]) State.reset = some (.number 564) ∧
    resultOf (.getOffset [0x34, 0xCE, 0xA0]) State.reset = some (.flag true) ∧
    resultOf (.getType [0x34, 0xCE, 0xA0]) State.reset = some (.msgType .byte) ∧
    resultOf (.getInternal [0x34, 0xCE, 0xA0]) State.reset = some (.flag true) ∧
    resultOf (.getIdLength [0x34, 0xCE, 0xA0]) State.reset = some (.number 0) ∧
    resultOf (.getResponse [0x34, 0xCE, 0xA0]) State.reset = some (.flag false) ∧
    resultOf (.getAcknum [0x34, 0xCE, 0xA0]) State.reset = some (.number 5) ∧
    resultOf (.wireSize [0x34, 0xCE, 0xA0]) State.reset = some (.number 569) := by decide
theorem test_types : resultOf (.typeFromCode 5) State.reset = some (.msgType .int8) ∧
    resultOf (.typeFromCode 13) State.reset = some (.msgType (.unknown 13)) ∧
    resultOf (.typeToCode .float64) State.reset = some (.number 12) ∧
    resultOf (.typeSize .int16) State.reset = some (.number 2) ∧
    resultOf (.typeArraySize .float64 3) State.reset = some (.number 24) := by decide
theorem test_msg_id_new : resultOf (.msgIdNew [0x61, 0x00]) State.reset = some (.identity (some [0x61, 0x00])) ∧
    resultOf (.msgIdNew [0x00]) State.reset = some (.identity none) := by decide
theorem test_views : resultOf (.msgId v1) State.reset = some (.bytes [0x61, 0x62, 0x63]) ∧
    resultOf (.payload v1) State.reset = some (.bytes [0x2A]) ∧
    resultOf (.checksum v1) State.reset = some (.number 0xA3B8) := by decide
/-- B22, B23. -/
theorem test_view_errors : resultOf (.msgId [0, 0, 1, 0, 0xF1, 0xB7]) State.reset = some (.error .invalidMessageId) ∧
    resultOf (.payload [0, 0, 0, 0x61, 0x76, 0xCB]) State.reset = some (.error .invalidMessageIdLength) := by decide

/-! Validator: K1, K5, K7a, K24. -/

theorem test_crc16 : resultOf (.crc16 [0x00, 0x00, 0x01, 0x61] none) State.reset = some (.number 0xCB76) ∧
    resultOf (.crc16 [0x63] (some 0x7C8B)) State.reset = some (.number 0x68DE) := by decide +kernel
theorem test_compute_checksum : resultOf (.computeChecksum v1) State.reset = some (.number 0xA3B8) := by decide +kernel
theorem test_validate : resultOf (.validate (v1 ++ [0xFF, 0xFF])) State.reset = some .ok := by decide +kernel
theorem test_validate_order : resultOf (.validate [0x00, 0x3C, 0xE1, 0x61, 0x00, 0xEB])
    { State.reset with cfg := cfgWith 64 false true } = some (.error (.unknownMessageType 15)) := by decide +kernel

/-! Framing: A5, A23, A27, A28, A15. -/

theorem test_encode_frame : resultOf (.encodeFrame [0x11, 0x22, 0x00, 0x33]) State.reset =
    some (.bytes [0x03, 0x11, 0x22, 0x02, 0x33, 0x00]) ∧
    resultOf (.frameOf [0x11, 0x22, 0x00, 0x33]) State.reset =
    some (.bytes [0x03, 0x11, 0x22, 0x02, 0x33, 0x00]) := by decide
theorem test_encode_full_block : resultOf (.encodeFrame (List.replicate 254 0xAA ++ [0x00, 0x05])) State.reset =
    some (.bytes ([0xFF] ++ List.replicate 254 0xAA ++ [0x01, 0x02, 0x05, 0x00])) := by decide +kernel
theorem test_max_encoded_len : resultOf (.maxEncodedLen 0) State.reset = some (.number 2) ∧
    resultOf (.maxEncodedLen 255) State.reset = some (.number 258) := by decide
theorem test_decode_buf : resultOf (.decodeBuf [0x03, 0x11, 0x22, 0x02, 0x33]) State.reset =
    some (.bytes [0x11, 0x22, 0x00, 0x33]) ∧
    resultOf (.decodeBuf [0x05, 0x11, 0x22]) State.reset = some (.error .framingDecodeError) := by decide
theorem test_decode_in_place : resultOf (.decodeInPlace [0x03, 0x11, 0x22, 0x02, 0x33]) State.reset =
    some (.inPlace (some [0x11, 0x22, 0x00, 0x33]) [0x11, 0x22, 0x00, 0x33, 0x33]) := by decide
theorem test_decode_in_place_fails : (match exec (.decodeInPlace [0x02, 0x00]) State.reset with
    | .next t => some t.freeDraws
    | _ => none) = some 1 := by decide

/-! Builder: S1a to S9. -/

theorem test_set_data_length : resultOf (.setDataLength [0x00, 0xFC] 341) State.reset = some (.view none [0x55, 0xFD]) ∧
    resultOf (.setDataLength [0x12, 0x34] 1025) State.reset = some (.view (some .invalidDataLength) [0x12, 0x34]) := by
  decide
theorem test_set_flags : resultOf (.setOffset [0, 0x7F] true) State.reset = some (.view none [0, 0xFF]) ∧
    resultOf (.setInternal [0, 0xFF] false) State.reset = some (.view none [0, 0xBF]) ∧
    resultOf (.setResponse [0, 0, 0xFF] false) State.reset = some (.view none [0, 0, 0xEF]) := by decide
theorem test_set_type : resultOf (.setType [0, 0xFF] .callback) State.reset = some (.view none [0, 0xC3]) ∧
    resultOf (.setType [0, 0x00] .float64) State.reset = some (.view none [0, 0x30]) := by decide
theorem test_set_id_length : resultOf (.setIdLength [0, 0, 0xFF] 1) State.reset = some (.view none [0, 0, 0xF1]) ∧
    resultOf (.setIdLength [0, 0, 0x63] 16) State.reset = some (.view (some .invalidMessageIdLength) [0, 0, 0x63]) := by
  decide
theorem test_set_acknum : resultOf (.setAcknum [0, 0, 0x63] 5) State.reset = some (.view none [0, 0, 0xA3]) ∧
    refusalOf (.setAcknum [0, 0, 0x63] 8) State.reset = some .acknumOutOfRange := by decide
theorem test_set_id_payload_checksum :
    resultOf (.setMsgId [0x01, 0x14, 0x63, 0, 0, 0, 0, 0, 0] [0x61, 0x62, 0x63]) State.reset =
      some (.view none [0x01, 0x14, 0x63, 0x61, 0x62, 0x63, 0, 0, 0]) ∧
    resultOf (.setPayload [0x01, 0x14, 0x63, 0x61, 0x62, 0x63, 0, 0, 0] [0x2A]) State.reset =
      some (.view none [0x01, 0x14, 0x63, 0x61, 0x62, 0x63, 0x2A, 0, 0]) ∧
    resultOf (.setChecksum [0x01, 0x14, 0x63, 0x61, 0x62, 0x63, 0x2A, 0, 0] 0xA3B8) State.reset =
      some (.view none v1) := by decide
/-- S8. -/
theorem test_set_msg_id_forbidden : resultOf (.setMsgId [0, 0, 1, 0, 0, 0] [0]) State.reset =
    some (.view (some .invalidMessageId) [0, 0, 1, 0, 0, 0]) := by decide
theorem test_new_unchecked : resultOf (.newUnchecked [0x12]) State.reset = some (.view none [0x12]) := by decide
/-- S9, V1. -/
theorem test_pkt : resultOf (.pkt v1Args) State.reset = some (.bytes v1) := by decide +kernel

/-! ### Witnesses: concrete states and operands that meet the hypotheses of each statement that has any -/

/-- A check of `Inv` that evaluates. -/
def invCheck (s : State) : Bool :=
  (match s.fsm with
    | .frameOffset => s.frameOffset == 0 && s.cursor == 0 && s.dataLength == 0 && !s.offsetFlag && s.idLength == 0 &&
        s.idCount == 0 && s.payloadCount == 0 && !s.prevCodeFf
    | .headerB2 => s.cursor == 2 && s.idLength == 0 && s.idCount == 0 && s.payloadCount == 0
    | .msgId => s.cursor == 3 + s.idCount.toNat && decide (s.idCount.toNat < s.idBytes) && s.payloadCount == 0
    | .crcB1 => s.cursor == 4 + s.idCount.toNat + s.payloadCount.toNat && s.idCount.toNat == s.idBytes &&
        s.payloadCount.toNat == s.dataLength.toNat
    | _ => false) &&
  (s.fsm == .frameOffset || decide (1 ≤ s.frameOffset.toNat)) && decide (s.cursor ≤ s.cfg.cap) &&
  (decide (s.cursor < 1) || s.dataLength.extractLsb' 0 8 == s.bufByte 0) &&
  (decide (s.cursor < 2) ||
    (s.dataLength == dataLengthOf (s.bufByte 0) (s.bufByte 1) && s.offsetFlag == offsetOf (s.bufByte 1))) &&
  (decide (s.cursor < 3) || s.idLength == idLengthOf (s.bufByte 2)) &&
  (List.range s.cursor).all (fun a => (Memory.read? s.buf a).isSome) && s.buf.all (fun c => decide (c.1 < s.cfg.cap)) &&
  Memory.wf s.buf && decide (s.validPktCount ≤ counterMax s.cfg) && decide (s.invalidPktCount ≤ counterMax s.cfg) &&
  (s.cfg.ffBlockException || !s.prevCodeFf)

/-- A listed address has a cell. -/
theorem mem_of_read? {m : Memory} {a : Nat} (h : (Memory.read? m a).isSome) : ∃ c ∈ m, c.1 = a := by
  induction m with
  | nil => simp [Memory.read?] at h
  | cons c m ih =>
    obtain ⟨k, v⟩ := c
    by_cases hk : k = a
    · exact ⟨(k, v), by simp, hk⟩
    · simp only [Memory.read?, hk, if_false] at h
      obtain ⟨d, hd, he⟩ := ih h
      exact ⟨d, by simp [hd], he⟩

/-- The check answers yes only where the invariant holds. -/
theorem inv_of_check {s : State} (h : invCheck s = true) : Inv s := by
  simp only [invCheck, Bool.and_eq_true, Bool.or_eq_true, decide_eq_true_eq, List.all_eq_true, List.mem_range,
    beq_iff_eq, Bool.not_eq_true'] at h
  obtain ⟨⟨⟨⟨⟨⟨⟨⟨⟨⟨⟨h1, h2⟩, h3⟩, h4⟩, h5⟩, h6⟩, h7⟩, h8⟩, h9⟩, h10⟩, h11⟩, h12⟩ := h
  refine ⟨?_, ?_, h3, ⟨?_, ?_, ?_⟩, h7, ?_, h9, h10, h11, ?_⟩
  · unfold State.inPlace State.workingZero
    split at h1 <;> simp_all
  · intro hf; exact h2.resolve_left hf
  · intro hc; exact h4.resolve_left (by omega)
  · intro hc; exact h5.resolve_left (by omega)
  · intro hc; exact h6.resolve_left (by omega)
  · intro a ha
    obtain ⟨c, hc, rfl⟩ := mem_of_read? ha
    exact h8 c hc
  · intro hf; exact h12.resolve_left (by simp [hf])

/-- V1 one byte before completion, with the last payload byte of P3. -/
def badLast : State := mid .crcB1 2 1 false 3 3 1 [0x01, 0x14, 0x63, 0x61, 0x62, 0x63, 0x2B, 0xB8]

/-- P6 one byte before completion: `id_length` 0. -/
def idZeroLast : State := mid .crcB1 1 0 false 0 1 0 [0, 0, 0, 0x61, 0x76]

/-- F19 one byte before completion: type 15 under REJECT_UNKNOWN_TYPE. -/
def unknownLast : State :=
  { mid .crcB1 1 0 false 1 1 0 [0x00, 0x3C, 0xE1, 0x61, 0x00] with cfg := cfgWith 64 false true }

/-- P5: parked in MsgId with a full buffer of 5. -/
def parked : State := { mid .msgId 5 1 false 3 2 0 (v1.take 5) with cfg := cfgWith 5 false false }

theorem test_witness_DecodeOfEncode : wellFormed (.packet v1Fields) = true ∧
    encode (.packet v1Fields) = some (.packet, v1) ∧ wellFormed (.decodePayload 0x2A) = true ∧
    encode (.decodePayload 0x2A) = some (.dispatch, [0x2A, 0x07]) := by decide
theorem test_witness_DecodedWordsAreEncodings : decode .packet v1 = .ok (.packet v1Fields) ∧
    decode .port [0b111#8, 0x55#8] = .ok (.new none) ∧ (Format.packet ≠ .port ∧ Format.packet ≠ .dispatch) := by decide
theorem test_witness_StepRunsTheIssuedOperation :
    State.reset.pending = [] ∧ decode .port [2#8, 0x0A#8] = .ok (.decode 0x0A) ∧
    decode .errorCode [0x00#8] = .error (.reservedCode .errorCode) ∧
    ({ State.reset with pending := [.word .port [2, 0x0A], .word .errorCode [0], .op .count] }).pending =
      .word .port [2, 0x0A] :: [.word .errorCode [0], .op .count] := by decide
theorem test_witness_WellFormedSelectedCompletes :
    wellFormed (.decodeCrcB1 0xA3) = true ∧ selected (.decodeCrcB1 0xA3) v1Last = true ∧
    wellFormed (.decodeFull 0x63) = true ∧ selected (.decodeFull 0x63) parked = true ∧
    wellFormed (.payload v1) = true ∧ selected (.payload v1) State.reset = true := by decide
theorem test_witness_UnselectedRowsAreRefused :
    (∀ i ∈ [Instr.decodeFrameOffset 1, .decodeHeaderB0 1, .decodeHeaderB1 1, .decodeHeaderB2 1, .decodeMsgId 1,
      .decodeOffsetB0 1, .decodeOffsetB1 1, .decodePayload 1, .decodeCrcB0 1, .decodeCodeAfterFf 1, .decodeFull 1,
      .unstuffFf 1], selected i v1Last = false) ∧ selected (.decodeCrcB1 1) State.reset = false ∧
    selected (.unstuff 1) { State.reset with cfg := cfgWith 64 true false } = false ∧ (1#8 : Byte) ≠ delimiter := by decide
theorem test_witness_UnstuffCountsDown : (0x11#8 : Byte) ≠ delimiter ∧ State.reset.cfg.ffBlockException = false ∧
    1 < (mid .payload 2 1 false 3 3 0 []).frameOffset.toNat ∧ ¬ 1 < (mid .payload 1 1 false 3 3 0 []).frameOffset.toNat := by
  decide
theorem test_witness_UnstuffUnderException :
    (cfgWith 64 true false).ffBlockException = true ∧ (0xFF#8 : Byte) ≠ delimiter ∧ (0x02#8 : Byte) ≠ delimiter := by decide
theorem test_witness_FeedStoresOrFails :
    let s := { mid .msgId 6 1 false 3 1 0 (v1.take 4) with cfg := cfgWith 5 false false }
    s.cursor < s.cfg.cap ∧ parked.cfg.cap ≤ parked.cursor := by decide
theorem test_witness_FrameOffsetRow : (0x0A#8 : Byte) ≠ delimiter ∧ State.reset.fsm = .frameOffset ∧
    unstuff 0x0A State.reset = (State.reset.setFrameOffset 0x0A, some 0) := by decide
theorem test_witness_HeaderRows :
    (mid .headerB0 10 0 false 0 0 0 []).fsm = .headerB0 ∧ (mid .headerB1 9 1 false 0 0 0 [1]).fsm = .headerB1 ∧
    (mid .headerB2 8 1 false 0 0 0 [1, 0x14]).fsm = .headerB2 ∧
    (unstuff 0x01 (mid .headerB0 10 0 false 0 0 0 [])).2 = some 0x01 ∧
    (unstuff 0x14 (mid .headerB1 9 1 false 0 0 0 [1])).2 = some 0x14 ∧
    (unstuff 0x63 (mid .headerB2 8 1 false 0 0 0 [1, 0x14])).2 = some 0x63 ∧
    (mid .headerB2 8 1 false 0 0 0 [1, 0x14]).cursor < (mid .headerB2 8 1 false 0 0 0 [1, 0x14]).cfg.cap := by decide
theorem test_witness_MsgIdRow : (mid .msgId 5 1 false 3 2 0 (v1.take 5)).fsm = .msgId ∧
    (unstuff 0x63 (mid .msgId 5 1 false 3 2 0 (v1.take 5))).2 = some 0x63 ∧
    (mid .msgId 5 1 false 3 2 0 (v1.take 5)).cursor < (mid .msgId 5 1 false 3 2 0 (v1.take 5)).cfg.cap := by decide
theorem test_witness_OffsetRows : (mid .offsetB0 6 1 true 3 3 0 (v1.take 6)).fsm = .offsetB0 ∧
    (mid .offsetB1 1 1 true 3 3 0 (v1.take 6)).fsm = .offsetB1 ∧
    (unstuff 0x11 (mid .offsetB0 6 1 true 3 3 0 (v1.take 6))).2 = some 0x11 ∧
    (unstuff 0x22 (mid .offsetB1 1 1 true 3 3 0 (v1.take 6))).2 = some 0 := by decide
theorem test_witness_PayloadAndCrcB0Rows : (mid .payload 4 1 false 3 3 0 (v1.take 6)).fsm = .payload ∧
    (mid .crcB0 3 1 false 3 3 1 (v1.take 7)).fsm = .crcB0 ∧
    (unstuff 0x2A (mid .payload 4 1 false 3 3 0 (v1.take 6))).2 = some 0x2A ∧
    (unstuff 0xB8 (mid .crcB0 3 1 false 3 3 1 (v1.take 7))).2 = some 0xB8 ∧
    (mid .crcB0 3 1 false 3 3 1 (v1.take 7)).cursor < (mid .crcB0 3 1 false 3 3 1 (v1.take 7)).cfg.cap := by decide
theorem test_witness_CompletionRow : v1Last.fsm = .crcB1 ∧ (unstuff 0xA3 v1Last).2 = some 0xA3 ∧
    v1Last.cursor < v1Last.cfg.cap ∧ v1.length = v1Last.cursor + 1 ∧
    (∀ a, a < v1Last.cursor → byteAt v1 a = v1Last.bufByte a) ∧ byteAt v1 v1Last.cursor = 0xA3 ∧
    validate v1Last.cfg.rejectUnknownType v1 = none := by decide +kernel
theorem test_witness_CompletionRow_error : badLast.fsm = .crcB1 ∧ (unstuff 0xA3 badLast).2 = some 0xA3 ∧
    (∀ a, a < badLast.cursor → byteAt (v1.set 6 0x2B) a = badLast.bufByte a) ∧
    byteAt (v1.set 6 0x2B) badLast.cursor = 0xA3 ∧
    validate badLast.cfg.rejectUnknownType (v1.set 6 0x2B) = some .invalidChecksum := by decide +kernel
theorem test_witness_FullBufferParks : storingState parked.fsm = true ∧ parked.cfg.cap ≤ parked.cursor ∧
    (unstuff 0x63 parked).2 = some 0x63 ∧ (0x63#8 : Byte) ≠ delimiter := by decide
theorem test_witness_CodeByteAfterFullBlock :
    let s := { mid .payload 1 9 false 1 1 0 [9, 0, 1, 0x61] with cfg := cfgWith 64 true false, prevCodeFf := true }
    s.cfg.ffBlockException = true ∧ s.fsm ≠ .frameOffset ∧ s.frameOffset.toNat ≤ 1 ∧ s.prevCodeFf = true := by decide
theorem test_witness_PureRowsChangeNothing : movesDecoder (.validate v1) = false ∧
    movesDecoder (.decodeInPlace [0x02, 0x00]) = false ∧ movesDecoder .count = false ∧
    exec .count State.reset = .next (State.reset.finish (.number 0)) ∧
    8 < ({ State.reset with portOutcome := .packet 9 v1 }).readable := ⟨rfl, rfl, rfl, rfl, by decide⟩
theorem test_witness_CountersNeverDecrease : ∃ t, exec (.decodeCrcB1 0xA3) v1Last = .next t ∧
    (∀ c, Instr.decodeCrcB1 0xA3 ≠ .new c) ∧
    (∀ bs, Instr.decodeCrcB1 0xA3 ≠ .feedStream bs ∧ Instr.decodeCrcB1 0xA3 ≠ .frame bs) :=
  ⟨_, rfl, by simp, by simp⟩
theorem test_witness_StoresOnlyAtCursors :
    (∃ t, exec (.decodeCrcB0 0xB8) (mid .crcB0 3 1 false 3 3 1 (v1.take 7)) = .next t) ∧
    (6 : Nat) ≠ (mid .crcB0 3 1 false 3 3 1 (v1.take 7)).cursor ∧ parked.cfg.cap ≤ parked.cursor ∧
    (∃ t, exec (.feedStream [0x0A]) State.reset = .next t) ∧
    (∀ pre suf, [0x0A#8] = pre ++ suf → suf ≠ [] → (decodeBytes pre State.reset).1.cursor ≠ 1 ∨
      State.reset.cfg.cap ≤ (decodeBytes pre State.reset).1.cursor) ∧
    (∃ t, exec (.frame []) State.reset = .next t) ∧
    (∀ pre suf, [0x63#8] = pre ++ suf → suf ≠ [] → (decodeBytes pre parked).1.cursor ≠ 5 ∨
      parked.cfg.cap ≤ (decodeBytes pre parked).1.cursor) := by
  refine ⟨⟨_, rfl⟩, by decide, by decide, ⟨_, rfl⟩, ?_, ⟨_, rfl⟩, ?_⟩ <;>
    (intro pre suf h hs
     match pre with
     | [] => decide
     | x :: pre => simp at h; simp [h.2.2] at hs)
theorem test_witness_StepKeepsInvariant :
    let s := { v1Last with pending := [.word .port [2, 0xA3], .op .count] }
    Inv s ∧ s.hostOperations ∧ ∃ t, step s = .next t :=
  ⟨inv_of_check (by decide), by unfold State.hostOperations; decide, ⟨_, rfl⟩⟩
theorem test_witness_DecoderOutcomes_packet : Inv v1Last ∧
    resultOf (.decode 0xA3) v1Last = some (.outcome (.packet 9 v1)) := ⟨inv_of_check (by decide), by decide +kernel⟩
theorem test_witness_DecoderOutcomes_errors :
    (Inv badLast ∧ resultOf (.decode 0xA3) badLast = some (.outcome (.error .invalidChecksum))) ∧
    (Inv idZeroLast ∧ resultOf (.decode 0xCB) idZeroLast = some (.outcome (.error .invalidMessageIdLength))) ∧
    (Inv unknownLast ∧ resultOf (.decode 0x6B) unknownLast = some (.outcome (.error (.unknownMessageType 15)))) ∧
    (Inv parked ∧ resultOf (.decode 0x63) parked = some (.outcome (.error .insufficientBufferSize))) :=
  ⟨⟨inv_of_check (by decide), by decide +kernel⟩, ⟨inv_of_check (by decide), by decide +kernel⟩,
    ⟨inv_of_check (by decide), by decide +kernel⟩, ⟨inv_of_check (by decide), by decide +kernel⟩⟩
theorem test_witness_OutcomeCodeRows :
    State.reset.portOutcome = .none ∧
    ({ State.reset with portOutcome := .packet 1043 [] }).portOutcome = .packet 1043 [] ∧
    ({ State.reset with portOutcome := .error (.unknownMessageType 15) }).portOutcome =
      .error (.unknownMessageType 15) := ⟨rfl, rfl, rfl⟩
/-- One byte short, `id_length` 0, and one byte too long. -/
theorem test_witness_LayoutRows : ([0, 0, 1, 0] : Bytes).length < 5 ∧ (byteAt [0, 0, 0, 0x61, 0x76, 0xCB] 2).toNat % 16 = 0 ∧
    (v1 ++ [0xFF]).length ≠ 5 + (byteAt v1 2).toNat % 16 + ((byteAt v1 1).toNat % 4 * 256 + (byteAt v1 0).toNat) := by
  decide
theorem test_witness_FieldGetters : 2 ≤ ([0x34, 0xCE] : Bytes).length ∧ 3 ≤ ([0x34, 0xCE, 0xA0] : Bytes).length := by decide
/-- `k` is 7 for V1: the whole packet, and the packet without its checksum. -/
theorem test_witness_SizesAndChecksums :
    7 = 3 + (byteAt v1 2).toNat % 16 + ((byteAt v1 1).toNat % 4 * 256 + (byteAt v1 0).toNat) ∧ 7 + 2 ≤ v1.length ∧
    7 = 3 + (byteAt (v1.take 7) 2).toNat % 16 + ((byteAt (v1.take 7) 1).toNat % 4 * 256 + (byteAt (v1.take 7) 0).toNat) ∧
    7 ≤ (v1.take 7).length := by decide
/-- B23 (no id), B22 cut to its id (the forbidden id), and V1 cut to its id and to its payload. -/
theorem test_witness_IdAndPayloadViews :
    0 = (byteAt [0, 0, 0] 2).toNat % 16 ∧ 3 ≤ ([0, 0, 0] : Bytes).length ∧
    1 = (byteAt [0, 0, 1, 0] 2).toNat % 16 ∧ byteAt [0, 0, 1, 0] 3 = 0 ∧ 4 + 0 ≤ ([0, 0, 1, 0] : Bytes).length ∧
    3 = (byteAt v1 2).toNat % 16 ∧ 1 = (byteAt v1 1).toNat % 4 * 256 + (byteAt v1 0).toNat ∧
    3 + 3 ≤ (v1.take 6).length ∧ 3 + 3 + 1 ≤ (v1.take 7).length ∧
    1 = (byteAt [0, 0, 1, 0x61] 2).toNat % 16 ∧ byteAt [0, 0, 1, 0x61] 3 ≠ 0 := by decide
theorem test_witness_ShortViewsAreRefused : ([1] : Bytes).length < 2 ∧ ([1, 2] : Bytes).length < 3 ∧
    3 = (byteAt v1 2).toNat % 16 ∧ 1 = (byteAt v1 1).toNat % 4 * 256 + (byteAt v1 0).toNat ∧
    (v1.take 5).length < 3 + 3 ∧ (v1.take 6).length < 3 + 3 + 1 ∧ (v1.take 8).length < 3 + 3 + 1 + 2 := by decide
theorem test_witness_TypeCodeBijection : 13 ≤ (13#4).toNat ∧
    (∀ n, MsgType.unknown 15 = .unknown n → 13 ≤ n ∧ n ≤ 15) ∧ (∀ n, MsgType.float64 = .unknown n → 13 ≤ n ∧ n ≤ 15) :=
  ⟨by decide, by simp +contextual, by simp⟩
theorem test_witness_MessageIdentities :
    (∀ p ∈ [[0x61#8], List.replicate 15 0, [0, 0]], 1 ≤ p.length ∧ p.length ≤ 15 ∧ p ≠ [0#8]) ∧
    (∀ p ∈ [([] : Bytes), List.replicate 16 0x61, [0]], p = [] ∨ 16 ≤ p.length ∨ p = [0#8]) := by decide
theorem test_witness_ValidateInOrder : 3 = (byteAt v1 2).toNat % 16 ∧
    7 = 3 + 3 + ((byteAt v1 1).toNat % 4 * 256 + (byteAt v1 0).toNat) ∧ 5 = (byteAt v1 1).toNat / 4 % 16 := by decide
theorem test_witness_ChecksumSensitivity : exec (.validate v1) State.reset = .next (State.reset.finish .ok) ∧
    7 = 3 + (byteAt v1 2).toNat % 16 + ((byteAt v1 1).toNat % 4 * 256 + (byteAt v1 0).toNat) ∧
    outsideLengths 1 2 ∧ outsideLengths 2 4 ∧ outsideLengths 6 0 := by
  refine ⟨?_, by decide, by simp [outsideLengths], by simp [outsideLengths], by simp [outsideLengths]⟩
  have h : validate State.reset.cfg.rejectUnknownType v1 = none := by decide +kernel
  simp [exec, execValidate, h]
theorem test_witness_MaxEncodedLen : 1 ≤ 1 ∧ 254 * 1 < 254 + 254 ∧ 254 ≤ 254 * 1 := by decide
theorem test_witness_EncodedLengthBound : (0#8 : Byte) ∉ ([0x11, 0x22] : Bytes) := by decide
/-- A string of 254 bytes whose only zero is the last. -/
theorem test_witness_ShortRunsCostTwoBytes : ∀ i, i + 254 ≤ (List.replicate 253 0xAA#8 ++ [0]).length →
    ∃ j, j < 254 ∧ byteAt (List.replicate 253 0xAA#8 ++ [0]) (i + j) = 0 := by
  intro i hi
  simp only [List.length_append, List.length_replicate, List.length_cons, List.length_nil] at hi
  obtain rfl : i = 0 := by omega
  exact ⟨253, by decide, by decide +kernel⟩
/-- A block followed by a well-formed rest, an empty rest, each error, and an error in the rest. -/
theorem test_witness_DecodeBufBlocks : (3#8).toNat = ([0x11, 0x22] : Bytes).length + 1 ∧
    (0#8 : Byte) ∉ ([0x11, 0x22] : Bytes) ∧
    exec (.decodeBuf [0x02, 0x33]) State.reset = .next (State.reset.finish (.bytes [0x33])) ∧
    ([] : Bytes).length + 1 < (2#8).toNat ∧ (0#8 : Byte) ∈ ([0x11, 0x00] : Bytes).take ((3#8).toNat - 1) ∧
    exec (.decodeBuf [0x00]) State.reset = .next (State.reset.finish (.error .framingDecodeError)) :=
  ⟨by decide, by decide, rfl, by decide, by decide, rfl⟩
theorem test_witness_InPlaceAgreesWithBulk : decodedBody [0x03, 0x11, 0x22, 0x02, 0x33] = .ok [0x11, 0x22, 0x00, 0x33] ∧
    decodedBody [0x05, 0x11, 0x22] = .raise .framingDecodeError := by decide
theorem test_witness_OnlineAgreesWithBulk :
    blocks? [0x03, 0x11, 0x22, 0x02, 0x33] = some [⟨3, [0x11, 0x22]⟩, ⟨2, [0x33]⟩] ∧
    noFullInnerBlock [⟨3, [0x11, 0x22]⟩, ⟨2, [0x33]⟩] = true ∧ State.reset.frameOffset = 0 ∧
    State.reset.prevCodeFf = false ∧ decodedBody [0x03, 0x11, 0x22, 0x02, 0x33] = .ok [0x11, 0x22, 0x00, 0x33] ∧
    (cfgWith 64 true false).ffBlockException = true := by decide
theorem test_witness_BackToBackFrames : validate v1Last.cfg.rejectUnknownType v1 = none ∧ v1.length = viewWireSize v1 ∧
    viewOffset v1 = false ∧ v1.length ≤ v1Last.cfg.cap ∧
    (∀ i, i + 254 ≤ v1.length → ∃ j, j < 254 ∧ byteAt v1 (i + j) = 0) ∧
    (cfgWith 9 true false).ffBlockException = true ∧ v1.length ≤ (cfgWith 9 true false).cap ∧
    v1Last.validPktCount + 3 ≤ counterMax v1Last.cfg := by
  refine ⟨by decide +kernel, by decide, by decide, by decide, ?_, by decide, by decide, by decide⟩
  intro i hi
  have h : v1.length = 9 := rfl
  omega
theorem test_witness_SetDataLength : ([1] : Bytes).length < 2 ∧ 2 ≤ ([1, 2] : Bytes).length ∧ 1024 < (1025#16).toNat ∧
    (1024#16).toNat = 1024 ∧ (1023#16).toNat < 1024 := by decide
theorem test_witness_SetByteOne : ([1] : Bytes).length < 2 ∧ 2 ≤ ([1, 2] : Bytes).length ∧
    15 < msgTypeCode (.unknown 16) ∧ msgTypeCode (.unknown 15) ≤ 15 := by decide
theorem test_witness_SetByteTwo : ([1, 2] : Bytes).length < 3 ∧ 3 ≤ ([1, 2, 3] : Bytes).length ∧ (0#8).toNat = 0 ∧
    15 < (16#8).toNat ∧ 1 ≤ (1#8).toNat ∧ (15#8).toNat ≤ 15 ∧ 7 < 8 ∧ 7 ≤ 7 := by decide
/-- V1: `id_length` 3, `data_length` 1, and cuts of it one byte short of each setter. -/
theorem test_witness_SetIdPayloadChecksum : 3 = (byteAt v1 2).toNat % 16 ∧
    1 = (byteAt v1 1).toNat % 4 * 256 + (byteAt v1 0).toNat ∧ identity? [0x00] = none ∧
    identity? [0x61, 0x62, 0x63] = some [0x61, 0x62, 0x63] ∧ identity? [0x61] = some [0x61] ∧
    (v1.take 5).length < 3 + 3 ∧ 3 + 3 ≤ (v1.take 6).length ∧ (v1.take 6).length < 3 + 3 + 1 ∧
    3 + 3 + 1 ≤ (v1.take 7).length ∧ (v1.take 8).length < 5 + 3 + 1 ∧ 5 + 3 + 1 ≤ v1.length ∧
    0 = (byteAt [0, 0, 0] 2).toNat % 16 ∧ 3 ≤ ([0, 0, 0] : Bytes).length := by decide
theorem test_witness_SettersAreIndependent : ∀ i ∈ [Instr.setDataLength v1 1023, .setOffset v1 true, .setType v1 .callback,
    .setInternal v1 true, .setIdLength v1 15, .setResponse v1 true, .setAcknum v1 7],
    ∃ p', resultOf i State.reset = some (.view none p') := by
  simp only [List.forall_mem_cons]
  exact ⟨⟨_, rfl⟩, ⟨_, rfl⟩, ⟨_, rfl⟩, ⟨_, rfl⟩, ⟨_, rfl⟩, ⟨_, rfl⟩, ⟨_, rfl⟩, by simp⟩
theorem test_witness_BuiltPacketsValidate : identity? v1Args.id = some v1Args.id ∧ v1Args.payload.length ≤ 1023 ∧
    msgTypeCode v1Args.type ≤ 12 ∧ v1Args.acknum ≤ 7 ∧ msgTypeCode (.unknown 15) ≤ 15 ∧
    State.reset.cfg.rejectUnknownType = false := by decide
theorem test_witness_PktOutOfRange : 1024 < (List.replicate 1025 0xAA#8).length ∧
    (List.replicate 1024 0xAA#8).length = 1024 ∧ v1Args.payload.length < 1024 ∧ 15 < msgTypeCode (.unknown 16) ∧
    msgTypeCode v1Args.type ≤ 15 ∧ ([] : Bytes).length = 0 ∧ 15 < (List.replicate 16 0x61#8).length ∧
    1 ≤ v1Args.id.length ∧ v1Args.id.length ≤ 15 ∧ 7 < 8 ∧ v1Args.acknum ≤ 7 ∧
    identity? [0#8] = none := by
  simp only [List.length_replicate]
  decide

end Sys2Proof.Tests
end

section
/-! PROOFS. Framing (spec/40_framing.md): UNSTUFF in the default variant (R111) and MAX_ENCODED_LEN (R104). -/

namespace Sys2Proof.Machine

/-! ### UNSTUFF, the default variant (R111) -/

/-- The micro-operation UNSTUFF is the step inside DECODE, with the byte handed on as its result. -/
theorem exec_unstuff_of_unstuff {b x : Byte} {s u : State} (hb : b ≠ delimiter) (hc : s.cfg.ffBlockException = false)
    (h : unstuff b s = (u, some x)) : exec (.unstuff b) s = .next (u.finish (.reconstructed (some x))) := by
  have hdef : unstuffDefault b s = (u, x) := by simpa [unstuff, hc, Prod.ext_iff] using h
  show execUnstuff b s = _
  simp [execUnstuff, hb, hc, hdef]

/-- Settles O12, by the cases of UNSTUFF: counting down, or loading a code byte. -/
theorem unstuffCountsDown : Obligations.UnstuffCountsDown := by
  intro b s hb hc
  rcases unstuff_cases b s with ⟨hlt, h⟩ | ⟨hle, _, h⟩ | ⟨_, hff, _⟩ | ⟨_, hff, _⟩
  case inl =>
    rw [if_pos hlt, if_pos hlt]
    exact ⟨exec_unstuff_of_unstuff hb hc h, h⟩
  case inr.inl =>
    rw [if_neg hle.not_gt, if_neg hle.not_gt]
    exact ⟨exec_unstuff_of_unstuff hb hc h, h⟩
  all_goals simp [hc] at hff

/-! ### MAX_ENCODED_LEN (R104) -/

@[simp] theorem maxEncodedLength_zero : maxEncodedLength 0 = 2 := rfl

/-- The model's quotient is the ceiling of `n / 254`, said by its two bounds. -/
theorem maxEncodedLength_of_pos {n : Nat} (hn : 1 ≤ n) :
    ∃ q, 254 * q < n + 254 ∧ n ≤ 254 * q ∧ maxEncodedLength n = n + q + 1 :=
  ⟨(n + 253) / 254, by omega, by omega, if_neg (Nat.ne_of_gt hn)⟩

theorem exec_maxEncodedLen (n : Nat) (s : State) :
    exec (.maxEncodedLen n) s = .next (s.finish (.number (maxEncodedLength n))) := rfl

/-- Settles O46, from the two values of `maxEncodedLength`. -/
theorem maxEncodedLen : Obligations.MaxEncodedLen := by
  intro n s
  refine ⟨exec_maxEncodedLen 0 s, fun hn => ?_⟩
  obtain ⟨q, hlt, hle, hq⟩ := maxEncodedLength_of_pos hn
  exact ⟨q, hlt, hle, by rw [exec_maxEncodedLen, hq]; rfl⟩

end Sys2Proof.Machine
end

section
/-! PROOFS. The header parser (spec/41_header_parser.md): field getters, sizes, id and payload views, Message Type and
Message Identity (R130 to R144, R164). -/

namespace Sys2Proof.Machine

/-! ### The header fields as arithmetic on their bytes (R75 to R77, R50) -/

/-- A byte put below a number of any width is its low 256s digit. -/
theorem toNat_append_byte {w : Nat} (hi : BitVec w) (lo : Byte) : (hi ++ lo).toNat = hi.toNat * 256 + lo.toNat := by
  rw [BitVec.toNat_append, ← Nat.shiftLeft_add_eq_or_of_lt lo.isLt, Nat.shiftLeft_eq]

theorem toNat_word16 (lo hi : Byte) : (word16 lo hi).toNat = hi.toNat * 256 + lo.toNat := toNat_append_byte hi lo

theorem toNat_dataLengthOf (b0 b1 : Byte) : (dataLengthOf b0 b1).toNat = b1.toNat % 4 * 256 + b0.toNat := by
  rw [dataLengthOf, toNat_append_byte, BitVec.extractLsb'_toNat, Nat.shiftRight_zero]

theorem offsetOf_eq_decide (b : Byte) : offsetOf b = decide (128 ≤ b.toNat) := by
  have hb := b.isLt
  rw [offsetOf, BitVec.getLsbD, Nat.testBit_eq_decide_div_mod_eq]
  exact decide_eq_decide.mpr (by omega)

theorem internalOf_eq_decide (b : Byte) : internalOf b = decide (b.toNat / 64 % 2 = 1) :=
  Nat.testBit_eq_decide_div_mod_eq

theorem typeCodeOf_eq_ofNat (b : Byte) : typeCodeOf b = BitVec.ofNat 4 (b.toNat / 4) := by
  rw [typeCodeOf, BitVec.extractLsb', Nat.shiftRight_eq_div_pow]

theorem toNat_idLengthOf (b : Byte) : (idLengthOf b).toNat = b.toNat % 16 := by
  rw [idLengthOf, BitVec.extractLsb'_toNat, Nat.shiftRight_zero]

theorem responseOf_eq_decide (b : Byte) : responseOf b = decide (b.toNat / 16 % 2 = 1) :=
  Nat.testBit_eq_decide_div_mod_eq

/-- The top three bits: no remainder is left to take. -/
theorem toNat_acknumOf (b : Byte) : (acknumOf b).toNat = b.toNat / 32 := by
  have hb := b.isLt
  rw [acknumOf, BitVec.extractLsb'_toNat, Nat.shiftRight_eq_div_pow]
  omega

/-! ### The fields of a view and the places computed from them (R54, R78, R144) -/

theorem toNat_viewDataLength (p : Bytes) :
    (viewDataLength p).toNat = (byteAt p 1).toNat % 4 * 256 + (byteAt p 0).toNat := toNat_dataLengthOf _ _

theorem toNat_viewIdLength (p : Bytes) : (viewIdLength p).toNat = (byteAt p 2).toNat % 16 := toNat_idLengthOf _

theorem checksumIndex_eq (p : Bytes) : checksumIndex p =
    3 + (byteAt p 2).toNat % 16 + ((byteAt p 1).toNat % 4 * 256 + (byteAt p 0).toNat) := by
  rw [checksumIndex, toNat_viewIdLength, toNat_viewDataLength]

theorem length_viewMsgId {p : Bytes} (h : 3 + (viewIdLength p).toNat ≤ p.length) :
    (viewMsgId p).length = (viewIdLength p).toNat := by
  rw [viewMsgId, slice, List.length_take, List.length_drop]
  omega

theorem viewMsgId_of_idLength_one {p : Bytes} (hp : 4 ≤ p.length) (h : (viewIdLength p).toNat = 1) :
    viewMsgId p = [byteAt p 3] := by
  have hlt : 3 < p.length := hp
  rw [viewMsgId, slice, h, List.drop_eq_getElem_cons hlt, byteAt, List.getD_eq_getElem _ _ hlt]
  rfl

/-! ### Message Identity (R140) -/

theorem identity?_eq_some {p : Bytes} (hpos : 1 ≤ p.length) (hle : p.length ≤ 15) (hne : p ≠ [0#8]) :
    identity? p = some p := by
  have hnull : ¬ (p.length = 1 ∧ byteAt p 0 = 0#8) := by
    rintro ⟨hlen, hbyte⟩
    obtain ⟨b, rfl⟩ := List.length_eq_one_iff.mp hlen
    exact hne (congrArg (fun x : Byte => [x]) hbyte)
  rw [identity?, if_neg (Nat.ne_of_gt hpos), if_neg hle.not_gt, if_neg hnull]

theorem identity?_eq_none {p : Bytes} (h : p = [] ∨ 16 ≤ p.length ∨ p = [0#8]) : identity? p = none := by
  rcases h with rfl | hlong | rfl
  · rfl
  · rw [identity?, if_neg (by omega), if_pos (show 15 < p.length from hlong)]
  · rfl

theorem exec_msgIdNew (p : Bytes) (s : State) : exec (.msgIdNew p) s = .next (s.finish (.identity (identity? p))) := rfl

/-- Settles O41, from the two values of MSG_ID_NEW. -/
theorem messageIdentities : Obligations.MessageIdentities := by
  intro p s
  refine ⟨fun ⟨hpos, hle, hne⟩ => ?_, fun h => ?_⟩
  · rw [exec_msgIdNew, identity?_eq_some hpos hle hne]; rfl
  · rw [exec_msgIdNew, identity?_eq_none h]; rfl

/-- The id of a long enough view is an identity unless it is the one forbidden byte: it has 1 to 15 bytes. -/
theorem identity?_viewMsgId_eq_some {p : Bytes} (hlen : 3 + (viewIdLength p).toNat ≤ p.length)
    (h0 : (viewIdLength p).toNat ≠ 0) (hid : (viewIdLength p).toNat ≠ 1 ∨ byteAt p 3 ≠ 0) :
    identity? (viewMsgId p) = some (viewMsgId p) := by
  have hl := length_viewMsgId hlen
  have hlt := (viewIdLength p).isLt
  refine identity?_eq_some (by omega) (by omega) fun hnull => ?_
  have h1 : (viewIdLength p).toNat = 1 := by rw [← hl, hnull]; rfl
  rw [viewMsgId_of_idLength_one (by omega) h1] at hnull
  exact hid.elim (fun h => h h1) (fun h => h (List.head_eq_of_cons_eq hnull))

theorem identity?_viewMsgId_eq_none {p : Bytes} (hlen : 4 ≤ p.length) (h1 : (viewIdLength p).toNat = 1)
    (hbyte : byteAt p 3 = 0) : identity? (viewMsgId p) = none :=
  identity?_eq_none (.inr (.inr (by rw [viewMsgId_of_idLength_one hlen h1, hbyte]; rfl)))

/-! ### Getters on a view that is long enough (R130 to R136, R143, R144, R164) -/

/-- A getter whose view has the length its rule requires delivers its value. -/
theorem deliver_needLength_of_le {α : Type} {p : Bytes} {n : Nat} (f : α → Result) (a : α) (s : State)
    (h : n ≤ p.length) : deliver f (needLength p n (.ok a)) s = .next (s.finish (f a)) := by
  rw [needLength_of_le _ h, deliver_ok]

section
variable {p : Bytes} (s : State)

theorem exec_getDataLength (h : 2 ≤ p.length) :
    exec (.getDataLength p) s = .next (s.finish (.number (viewDataLength p).toNat)) :=
  deliver_needLength_of_le _ _ s h

theorem exec_getOffset (h : 2 ≤ p.length) : exec (.getOffset p) s = .next (s.finish (.flag (viewOffset p))) :=
  deliver_needLength_of_le _ _ s h

theorem exec_getInternal (h : 2 ≤ p.length) : exec (.getInternal p) s = .next (s.finish (.flag (viewInternal p))) :=
  deliver_needLength_of_le _ _ s h

theorem exec_getType (h : 2 ≤ p.length) :
    exec (.getType p) s = .next (s.finish (.msgType (msgTypeOfCode (viewTypeCode p)))) :=
  deliver_needLength_of_le _ _ s h

theorem exec_getIdLength (h : 3 ≤ p.length) :
    exec (.getIdLength p) s = .next (s.finish (.number (viewIdLength p).toNat)) :=
  deliver_needLength_of_le _ _ s h

theorem exec_getResponse (h : 3 ≤ p.length) : exec (.getResponse p) s = .next (s.finish (.flag (viewResponse p))) :=
  deliver_needLength_of_le _ _ s h

theorem exec_getAcknum (h : 3 ≤ p.length) :
    exec (.getAcknum p) s = .next (s.finish (.number (viewAcknum p).toNat)) :=
  deliver_needLength_of_le _ _ s h

theorem exec_wireSize (h : 3 ≤ p.length) : exec (.wireSize p) s = .next (s.finish (.number (viewWireSize p))) :=
  deliver_needLength_of_le _ _ s h

theorem exec_checksum (h3 : 3 ≤ p.length) (h : viewWireSize p ≤ p.length) :
    exec (.checksum p) s = .next (s.finish (.number (viewChecksum p).toNat)) := by
  show deliver _ (needLength p 3 _) s = _
  rw [needLength_of_le _ h3, deliver_needLength_of_le _ _ s h]

theorem exec_computeChecksum (h3 : 3 ≤ p.length) (h : checksumIndex p ≤ p.length) :
    exec (.computeChecksum p) s = .next (s.finish (.number (computedChecksum p).toNat)) := by
  show deliver _ (needLength p 3 _) s = _
  rw [needLength_of_le _ h3, deliver_needLength_of_le _ _ s h]

end

/-- Settles O35: each getter delivers its field, and each field is arithmetic on one or two header bytes. -/
theorem fieldGetters : Obligations.FieldGetters := by
  intro p s
  refine ⟨fun h => ⟨?_, ?_, ?_, ?_⟩, fun h => ⟨?_, ?_, ?_⟩⟩
  · rw [exec_getDataLength s h, toNat_viewDataLength]; rfl
  · rw [exec_getOffset s h, viewOffset, offsetOf_eq_decide]; rfl
  · rw [exec_getInternal s h, viewInternal, internalOf_eq_decide]; rfl
  · rw [exec_getType s h, viewTypeCode, typeCodeOf_eq_ofNat]; rfl
  · rw [exec_getIdLength s h, toNat_viewIdLength]; rfl
  · rw [exec_getResponse s h, viewResponse, responseOf_eq_decide]; rfl
  · rw [exec_getAcknum s h, viewAcknum, toNat_acknumOf]; rfl

/-- Settles O36: `k` is the model's place of the checksum. -/
theorem sizesAndChecksums : Obligations.SizesAndChecksums := by
  intro p s k hk h3
  obtain rfl : k = checksumIndex p := hk.trans (checksumIndex_eq p).symm
  refine ⟨exec_wireSize s h3, fun h => ?_, fun h => exec_computeChecksum s h3 h⟩
  rw [exec_checksum s h3 h, viewChecksum, toNat_word16]; rfl

/-! ### MSG_ID and PAYLOAD (R141, R142) -/

section
variable {p : Bytes} (s : State) (h3 : 3 ≤ p.length)
include h3

theorem exec_msgId_of_idLength_zero (h0 : (viewIdLength p).toNat = 0) :
    exec (.msgId p) s = .next (s.raiseError .invalidMessageIdLength) := by
  show deliver .bytes (msgIdView p) s = _
  rw [msgIdView, needLength_of_le _ h3, if_pos h0, deliver_raise]

theorem exec_payload_of_idLength_zero (h0 : (viewIdLength p).toNat = 0) :
    exec (.payload p) s = .next (s.raiseError .invalidMessageIdLength) := by
  show deliver .bytes (payloadView p) s = _
  rw [payloadView, needLength_of_le _ h3, if_pos h0, deliver_raise]

variable (h0 : (viewIdLength p).toNat ≠ 0)
include h0

theorem exec_msgId_of_identity_none (hlen : 3 + (viewIdLength p).toNat ≤ p.length)
    (hid : identity? (viewMsgId p) = none) : exec (.msgId p) s = .next (s.raiseError .invalidMessageId) := by
  show deliver .bytes (msgIdView p) s = _
  simp only [msgIdView, needLength_of_le _ h3, if_neg h0, needLength_of_le _ hlen, hid, deliver_raise]

theorem exec_payload_of_identity_none (hlen : checksumIndex p ≤ p.length)
    (hid : identity? (viewMsgId p) = none) : exec (.payload p) s = .next (s.raiseError .invalidMessageId) := by
  show deliver .bytes (payloadView p) s = _
  simp only [payloadView, needLength_of_le _ h3, if_neg h0, needLength_of_le _ hlen, hid, deliver_raise]

theorem exec_msgId_of_identity_some {d : Bytes} (hlen : 3 + (viewIdLength p).toNat ≤ p.length)
    (hid : identity? (viewMsgId p) = some d) : exec (.msgId p) s = .next (s.finish (.bytes d)) := by
  show deliver .bytes (msgIdView p) s = _
  simp only [msgIdView, needLength_of_le _ h3, if_neg h0, needLength_of_le _ hlen, hid, deliver_ok]

theorem exec_payload_of_identity_some {d : Bytes} (hlen : checksumIndex p ≤ p.length)
    (hid : identity? (viewMsgId p) = some d) : exec (.payload p) s = .next (s.finish (.bytes (viewPayload p))) := by
  show deliver .bytes (payloadView p) s = _
  simp only [payloadView, needLength_of_le _ h3, if_neg h0, needLength_of_le _ hlen, hid, deliver_ok]

end

/-- Settles O37: no id, the forbidden id, or an identity. -/
theorem idAndPayloadViews : Obligations.IdAndPayloadViews := by
  intro p s idl dl hidl hdl h3
  obtain rfl : idl = (viewIdLength p).toNat := hidl.trans (toNat_viewIdLength p).symm
  obtain rfl : dl = (viewDataLength p).toNat := hdl.trans (toNat_viewDataLength p).symm
  refine ⟨fun h0 => ?noId, fun h1 hbyte => ?forbiddenId, fun h0 hid => ?identity⟩
  case noId => exact ⟨exec_msgId_of_idLength_zero s h3 h0, exec_payload_of_idLength_zero s h3 h0⟩
  case forbiddenId =>
    have h0 : (viewIdLength p).toNat ≠ 0 := by omega
    refine ⟨fun hlen => ?_, fun hlen => ?_⟩
    · exact exec_msgId_of_identity_none s h3 h0 (by omega) (identity?_viewMsgId_eq_none hlen h1 hbyte)
    · exact exec_payload_of_identity_none s h3 h0 (by rw [checksumIndex]; omega)
        (identity?_viewMsgId_eq_none (by omega) h1 hbyte)
  case identity =>
    refine ⟨fun hlen => ?_, fun hlen => ?_⟩
    · exact exec_msgId_of_identity_some s h3 h0 hlen (identity?_viewMsgId_eq_some hlen h0 hid)
    · exact exec_payload_of_identity_some s h3 h0 hlen (identity?_viewMsgId_eq_some (by omega) h0 hid)

/-! ### Message Type (R137, R138) -/

/-- "Unknown codes preserved losslessly" (R132, R138). -/
theorem msgTypeOfCode_of_ge {c : BitVec 4} (h : 13 ≤ c.toNat) : msgTypeOfCode c = .unknown c.toNat := by
  unfold msgTypeOfCode
  split
  case h_14 => rfl
  all_goals omega

theorem msgTypeCode_msgTypeOfCode (c : BitVec 4) : msgTypeCode (msgTypeOfCode c) = c.toNat := by
  unfold msgTypeOfCode
  split
  case h_14 => rfl
  all_goals simp only [msgTypeCode, *]

/-- A type that TYPE_FROM_CODE can produce: a named one, or an `Unknown` of a code outside the table (R79). -/
theorem msgTypeOfCode_msgTypeCode {t : MsgType} (h : ∀ n, t = .unknown n → 13 ≤ n ∧ n ≤ 15) :
    msgTypeOfCode (BitVec.ofNat 4 (msgTypeCode t)) = t := by
  cases t
  case unknown n =>
    obtain ⟨hlo, hhi⟩ := h n rfl
    have hn : (BitVec.ofNat 4 n).toNat = n := Nat.mod_eq_of_lt (by omega)
    rw [msgTypeCode, msgTypeOfCode_of_ge (by rw [hn]; exact hlo), hn]
  all_goals rfl

theorem exec_typeFromCode (c : BitVec 4) (s : State) :
    exec (.typeFromCode c) s = .next (s.finish (.msgType (msgTypeOfCode c))) := rfl

theorem exec_typeToCode (t : MsgType) (s : State) :
    exec (.typeToCode t) s = .next (s.finish (.number (msgTypeCode t))) := rfl

/-- Settles O39: the two conversions are inverse to each other on the sixteen codes and the types they produce. -/
theorem typeCodeBijection : Obligations.TypeCodeBijection := by
  intro s
  refine ⟨fun c => ⟨msgTypeOfCode c, exec_typeFromCode c s, ?_, msgTypeOfCode_of_ge⟩, fun t ht => ?_,
    fun n => exec_typeToCode (.unknown n) s⟩
  · rw [exec_typeToCode, msgTypeCode_msgTypeOfCode]; rfl
  · have hback := msgTypeOfCode_msgTypeCode ht
    have hcode := msgTypeCode_msgTypeOfCode (BitVec.ofNat 4 (msgTypeCode t))
    rw [hback] at hcode
    refine ⟨BitVec.ofNat 4 (msgTypeCode t), ?_, ?_⟩
    · rw [exec_typeToCode, ← hcode]; rfl
    · rw [exec_typeFromCode, hback]; rfl

end Sys2Proof.Machine
end

section
/-! PROOFS. The CRC-check validator (spec/42_crc_validator.md): VALIDATE (R165 to R171). -/

namespace Sys2Proof.Machine

/-! ### The fields VALIDATE compares, as arithmetic on the bytes (R75, R78, R144, R164) -/

theorem toNat_viewTypeCode (p : Bytes) : (viewTypeCode p).toNat = (byteAt p 1).toNat / 4 % 16 := by
  rw [viewTypeCode, typeCodeOf_eq_ofNat, BitVec.toNat_ofNat]

theorem toNat_viewChecksum (p : Bytes) : (viewChecksum p).toNat =
    (byteAt p (checksumIndex p + 1)).toNat * 256 + (byteAt p (checksumIndex p)).toNat := toNat_word16 _ _

theorem crc16_take_checksumIndex (p : Bytes) : crc16 0xFFFF#16 (p.take (checksumIndex p)) = computedChecksum p := rfl

theorem six_le_viewWireSize {p : Bytes} (h : (viewIdLength p).toNat ≠ 0) : 6 ≤ viewWireSize p := by
  rw [viewWireSize, checksumIndex]
  omega

/-! ### What the validator answers, check by check (R165 to R171, R253) -/

section
variable {r : Bool} {p : Bytes}

theorem validate_of_length_lt_three (h : p.length < 3) : validate r p = some .missingHeader := if_pos h

theorem validate_of_length_lt_five (h3 : 3 ≤ p.length) (h : p.length < 5) : validate r p = some .missingChecksum := by
  rw [validate, if_neg h3.not_gt, if_pos h]

theorem validate_of_idLength_zero (h5 : 5 ≤ p.length) (h : (viewIdLength p).toNat = 0) :
    validate r p = some .invalidMessageIdLength := by
  rw [validate, if_neg (by omega), if_neg h5.not_gt, if_pos h]

theorem validate_of_length_lt_wireSize (h5 : 5 ≤ p.length) (h0 : (viewIdLength p).toNat ≠ 0)
    (h : p.length < viewWireSize p) : validate r p = some .incompletePayload := by
  rw [validate, if_neg (by omega), if_neg h5.not_gt, if_neg h0, if_pos h]

variable (h0 : (viewIdLength p).toNat ≠ 0) (hw : viewWireSize p ≤ p.length)
include h0 hw

/-- From here on the packet is complete, so that only its type and its checksum are left to check. -/
theorem validate_of_complete : validate r p =
    if r ∧ 12 < (viewTypeCode p).toNat then some (.unknownMessageType (viewTypeCode p))
    else if viewChecksum p ≠ computedChecksum p then some .invalidChecksum else none := by
  have h6 := six_le_viewWireSize h0
  rw [validate, if_neg (by omega), if_neg (by omega), if_neg h0, if_neg hw.not_gt]

theorem validate_of_type_rejected (h : r = true ∧ 12 < (viewTypeCode p).toNat) :
    validate r p = some (.unknownMessageType (viewTypeCode p)) := by
  rw [validate_of_complete h0 hw, if_pos h]

variable (ht : ¬ (r = true ∧ 12 < (viewTypeCode p).toNat))
include ht

theorem validate_of_checksum_ne (h : viewChecksum p ≠ computedChecksum p) : validate r p = some .invalidChecksum := by
  rw [validate_of_complete h0 hw, if_neg ht, if_pos h]

theorem validate_of_checksum_eq (h : viewChecksum p = computedChecksum p) : validate r p = none := by
  rw [validate_of_complete h0 hw, if_neg ht, if_neg (not_not_intro h)]

end

theorem exec_validate_of_some {p : Bytes} {s : State} {e : Err} (h : validate s.cfg.rejectUnknownType p = some e) :
    exec (.validate p) s = .next (s.raiseError e) := by
  show execValidate p s = _
  rw [execValidate, h]

theorem exec_validate_of_none {p : Bytes} {s : State} (h : validate s.cfg.rejectUnknownType p = none) :
    exec (.validate p) s = .next (s.finish .ok) := by
  show execValidate p s = _
  rw [execValidate, h]

/-- Settles O44: each check, given that those before it passed, decides VALIDATE or hands on to the next. -/
theorem validateInOrder : Obligations.ValidateInOrder := by
  intro p s idl k tc hidl hk htc
  obtain rfl : idl = (viewIdLength p).toNat := hidl.trans (toNat_viewIdLength p).symm
  obtain rfl : tc = (viewTypeCode p).toNat := htc.trans (toNat_viewTypeCode p).symm
  obtain rfl : k = checksumIndex p := by rw [hk, hidl, checksumIndex_eq]
  rw [← toNat_viewChecksum, crc16_take_checksumIndex, BitVec.ofNat_toNat, BitVec.setWidth_eq]
  by_cases h3 : p.length < 3
  · rw [if_pos h3, exec_validate_of_some (validate_of_length_lt_three h3)]; rfl
  rw [if_neg h3]
  by_cases h5 : p.length < 5
  · rw [if_pos h5, exec_validate_of_some (validate_of_length_lt_five (not_lt.mp h3) h5)]; rfl
  rw [if_neg h5]
  by_cases h0 : (viewIdLength p).toNat = 0
  · rw [if_pos h0, exec_validate_of_some (validate_of_idLength_zero (not_lt.mp h5) h0)]; rfl
  rw [if_neg h0]
  by_cases hw : p.length < checksumIndex p + 2
  · rw [if_pos hw, exec_validate_of_some (validate_of_length_lt_wireSize (not_lt.mp h5) h0 hw)]; rfl
  rw [if_neg hw]
  have hcomplete : viewWireSize p ≤ p.length := not_lt.mp hw
  by_cases ht : s.cfg.rejectUnknownType = true ∧ 12 < (viewTypeCode p).toNat
  · rw [if_pos ht, exec_validate_of_some (validate_of_type_rejected h0 hcomplete ht)]; rfl
  rw [if_neg ht]
  by_cases hc : viewChecksum p = computedChecksum p
  · rw [if_neg (not_not_intro (congrArg BitVec.toNat hc)),
      exec_validate_of_none (validate_of_checksum_eq h0 hcomplete ht hc)]; rfl
  · rw [if_pos (BitVec.toNat_ne_iff_ne.mpr hc),
      exec_validate_of_some (validate_of_checksum_ne h0 hcomplete ht hc)]; rfl

end Sys2Proof.Machine
end

section
/-! PROOFS. The frame decoder (spec/43_decoder_fsm.md): RESET_FSM and the delimiter, the counter reads, the rows of the
states FrameOffset, MsgId, OffsetB0 and OffsetB1, and frame completion in CrcB1 (R182, R183, R187 to R191, R194, R195,
R199 to R201). -/

namespace Sys2Proof.Machine

/-! ### RESET, the delimiter and the counter reads (R182, R189, R199 to R201) -/

theorem exec_reset (s : State) : exec .reset s = .next s.resetFsm.finishQuiet := rfl

theorem exec_resetFsm (s : State) : exec .resetFsm s = .next (s.resetFsm.finish .none) := rfl

theorem exec_count (s : State) : exec .count s = .next (s.finish (.number s.validPktCount)) := rfl

theorem exec_invalidCount (s : State) : exec .invalidCount s = .next (s.finish (.number s.invalidPktCount)) := rfl

theorem exec_decode (b : Byte) (s : State) : exec (.decode b) s = .next (finishOutcome (decodeByte b s)) := rfl

/-- The three forms in which the delimiter is issued are one operation (R71, R84, R189). -/
theorem exec_of_delimiter {i : Instr} (hi : i = .decode delimiter ∨ i = .decodeDelim ∨ i = .delim) (s : State) :
    exec i s = .next (finishOutcome (s.resetFsm, .none)) := by
  rcases hi with rfl | rfl | rfl
  case inl => rw [exec_decode, decodeByte_delimiter]
  case inr.inl => rfl
  case inr.inr =>
    show execDelim s = _
    rw [execDelim, decodeByte_delimiter]

/-- Settles O8: RESET and RESET_FSM are the update `resetFsm`, which writes the listed registers and no other. -/
theorem resetZeroesTheWorkingRegisters : Obligations.ResetZeroesTheWorkingRegisters :=
  fun s => ⟨exec_reset s, exec_resetFsm s⟩

/-- Settles O9: each read delivers its counter as the result and writes nothing else. -/
theorem counterReadsChangeNothing : Obligations.CounterReadsChangeNothing :=
  fun s => ⟨exec_count s, exec_invalidCount s⟩

/-- Settles O10: all three forms of the delimiter run RESET_FSM with outcome NONE. -/
theorem delimiterAborts : Obligations.DelimiterAborts :=
  fun _ hi s => exec_of_delimiter hi s

/-! ### The row of a state (R84, R180) -/

theorem exec_stateRow (st : FsmState) (b : Byte) (s : State) :
    exec (stateRow st b) s = runRow b (s.fsm == st) (inState st) s := by
  cases st <;> rfl

/-- The row of the machine's state runs that state's rule on the byte and the state that UNSTUFF leaves. -/
theorem exec_stateRow_of_unstuff {b x : Byte} {s u : State} {st : FsmState} {r : State × DecodeOutcome}
    (hb : b ≠ delimiter) (hst : s.fsm = st) (hu : unstuff b s = (u, some x)) (hrule : inState st x u = r) :
    exec (stateRow st b) s = .next (finishOutcome r) := by
  rw [exec_stateRow, hst, beq_self_eq_true, runRow_of_selected hb, afterUnstuff_some hu, hrule]

/-- The state UNSTUFF leaves, with its two writes made explicit; every other register is then read off `s`. -/
theorem eq_setPrevCodeFf_of_unstuff {b : Byte} {x : Option Byte} {s u : State} (hu : unstuff b s = (u, x)) :
    ∃ v f, u = (s.setFrameOffset v).setPrevCodeFf f := by
  obtain ⟨v, f, hvf, -⟩ := unstuff_frame b s
  exact ⟨v, f, by rw [← hvf, hu]⟩

/-! ### The states that store nothing (R183, R190, R191) -/

/-- Settles O15: the rule of FrameOffset moves the state and ignores the byte. -/
theorem frameOffsetRow : Obligations.FrameOffsetRow :=
  fun _ _ _ _ hb hst hu => exec_stateRow_of_unstuff hb hst hu rfl

/-- Settles O18: OffsetB1 chooses by `data_length`, which UNSTUFF leaves alone. -/
theorem offsetRows : Obligations.OffsetRows := by
  intro b x s u hb hu
  refine ⟨fun hst => exec_stateRow_of_unstuff hb hst hu rfl, fun hst => ?_⟩
  obtain ⟨v, f, rfl⟩ := eq_setPrevCodeFf_of_unstuff hu
  exact exec_stateRow_of_unstuff hb hst hu rfl

/-! ### State MsgId (R187, R188) -/

/-- R188 from the other side: the state stays while `id_count` is below `id_length`. -/
theorem chooseAfterId_eq_goto (s : State) : chooseAfterId s =
    (s.goto (if s.idCount.toNat < s.idLength.toNat then s.fsm else afterId s), .none) := by
  rw [chooseAfterId]
  by_cases h : s.idCount.toNat < s.idLength.toNat
  · rw [if_pos h, if_neg h.not_ge]; rfl
  · rw [if_neg h, if_pos (not_lt.mp h)]

/-- The rule of MsgId with room in the buffer; the successor looks at registers that the store leaves alone. -/
theorem inMsgId_of_lt {x : Byte} {s : State} (h : s.cursor < s.cfg.cap) : inMsgId x s =
    ((s.store x).countId.goto (if (s.idCount + 1).toNat < s.idLength.toNat then s.fsm else afterId s), .none) :=
  (onFeed_of_lt _ h).trans (chooseAfterId_eq_goto _)

/-- Settles O17: the byte is stored and counted, then the successor is chosen by the new count. -/
theorem msgIdRow : Obligations.MsgIdRow := by
  intro b x s u hb hst hu hroom
  obtain ⟨v, f, rfl⟩ := eq_setPrevCodeFf_of_unstuff hu
  have hrow := exec_stateRow_of_unstuff hb hst hu (inMsgId_of_lt hroom)
  rw [← hst]
  exact hrow

/-! ### Frame completion (R194, R195) -/

/-- A byte string that agrees with BUF byte by byte is BUF's span of that length. -/
theorem State.span_eq_of_byteAt {s : State} {p : Bytes} {n : Nat} (hlen : p.length = n)
    (hbytes : ∀ a, a < n → byteAt p a = s.bufByte a) : s.span n = p := by
  refine List.ext_getElem (by rw [State.length_span, hlen]) fun a _ ha => ?_
  have hread : byteAt p a = p[a] := List.getD_eq_getElem _ _ ha
  rw [← hread, hbytes a (hlen ▸ ha)]
  simp [State.span]

/-- The span after a store: the bytes stored before, then the one stored (R195, R196). -/
theorem State.span_store_eq_of_byteAt {s : State} {x : Byte} {p : Bytes} (hlen : p.length = s.cursor + 1)
    (hbytes : ∀ a, a < s.cursor → byteAt p a = s.bufByte a) (hlast : byteAt p s.cursor = x) :
    (s.store x).span (s.cursor + 1) = p := by
  refine State.span_eq_of_byteAt hlen fun a ha => ?_
  rcases Nat.lt_succ_iff_lt_or_eq.mp ha with hlt | rfl
  · rw [State.bufByte_store_other s x (Nat.ne_of_lt hlt), hbytes a hlt]
  · rw [State.bufByte_store_same, hlast]

section
variable {x : Byte} {s : State} {p : Bytes} (hspan : (s.store x).span (s.cursor + 1) = p)
  (hroom : s.cursor < s.cfg.cap)
include hspan hroom

theorem inCrcB1_of_validate_none (hv : validate s.cfg.rejectUnknownType p = none) :
    inCrcB1 x s = ((s.store x).resetFsm.countValid, .packet (s.cursor + 1) p) := by
  rw [inCrcB1, onFeed_of_lt _ hroom, complete, State.store_cursor, hspan, State.store_cfg, hv]

theorem inCrcB1_of_validate_some {e : Err} (hv : validate s.cfg.rejectUnknownType p = some e) :
    inCrcB1 x s = ((s.store x).resetFsm.countInvalid, .error e) := by
  rw [inCrcB1, onFeed_of_lt _ hroom, complete, State.store_cursor, hspan, State.store_cfg, hv]

end

/-- Settles O20: the given span is the one that completion validates, and RESET_FSM overwrites what UNSTUFF wrote. -/
theorem completionRow : Obligations.CompletionRow := by
  intro b x s u span hb hst hu hroom hlen hbytes hlast
  obtain ⟨v, f, rfl⟩ := eq_setPrevCodeFf_of_unstuff hu
  have hspan := State.span_store_eq_of_byteAt (s := (s.setFrameOffset v).setPrevCodeFf f) hlen hbytes hlast
  exact ⟨fun hv => exec_stateRow_of_unstuff hb hst hu (inCrcB1_of_validate_none hspan hroom hv),
    fun _ hv => exec_stateRow_of_unstuff hb hst hu (inCrcB1_of_validate_some hspan hroom hv)⟩

end Sys2Proof.Machine
end

section
/-! PROOFS. The packet layout (spec/30_encoding.md R73 to R78): header bytes and packets from their fields and back. -/

namespace Sys2Proof.Machine

/-! ### Header bytes and 16-bit words from their fields (R50, R75, R76) -/

theorem toNat_append_bits {v w : Nat} (hi : BitVec v) (lo : BitVec w) :
    (hi ++ lo).toNat = hi.toNat * 2 ^ w + lo.toNat := by
  rw [BitVec.toNat_append, ← Nat.shiftLeft_add_eq_or_of_lt lo.isLt, Nat.shiftLeft_eq]

theorem toNat_headerByte1 (o i : Bool) (t : BitVec 4) (d : BitVec 2) :
    (headerByte1 o i t d).toNat = 128 * o.toNat + 64 * i.toNat + 4 * t.toNat + d.toNat := by
  simp only [headerByte1, toNat_append_bits, BitVec.toNat_ofBool]
  omega

theorem toNat_headerByte2 (a : BitVec 3) (r : Bool) (n : BitVec 4) :
    (headerByte2 a r n).toNat = 32 * a.toNat + 16 * r.toNat + n.toNat := by
  simp only [headerByte2, toNat_append_bits, BitVec.toNat_ofBool]
  omega

theorem toNat_lowByte (c : Word16) : (lowByte c).toNat = c.toNat % 256 := by
  rw [lowByte, BitVec.extractLsb'_toNat, Nat.shiftRight_zero]

theorem toNat_highByte (c : Word16) : (highByte c).toNat = c.toNat / 256 := by
  have hc := c.isLt
  rw [highByte, BitVec.extractLsb'_toNat, Nat.shiftRight_eq_div_pow]
  omega

/-- The two bytes of a word, low byte first, are the word (R50, R78). -/
@[simp] theorem word16_lowByte_highByte (c : Word16) : word16 (lowByte c) (highByte c) = c := by
  apply BitVec.eq_of_toNat_eq
  rw [toNat_word16, toNat_lowByte, toNat_highByte]
  omega

@[simp] theorem lowByte_word16 (lo hi : Byte) : lowByte (word16 lo hi) = lo := by
  apply BitVec.eq_of_toNat_eq
  have hlo := lo.isLt
  rw [toNat_lowByte, toNat_word16]
  omega

@[simp] theorem highByte_word16 (lo hi : Byte) : highByte (word16 lo hi) = hi := by
  apply BitVec.eq_of_toNat_eq
  have hlo := lo.isLt
  rw [toNat_highByte, toNat_word16]
  omega

/-! ### Header byte 1 and header byte 2 taken apart and put together (R75, R76) -/

theorem toNat_dataLengthHigh (b : Byte) : (b.extractLsb' 0 2).toNat = b.toNat % 4 := by
  rw [BitVec.extractLsb'_toNat, Nat.shiftRight_zero]

theorem toNat_typeCodeOf (b : Byte) : (typeCodeOf b).toNat = b.toNat / 4 % 16 := by
  rw [typeCodeOf_eq_ofNat, BitVec.toNat_ofNat]

theorem bool_eq_of_toNat_eq {a b : Bool} (h : a.toNat = b.toNat) : a = b := by
  revert a b
  decide

theorem toNat_offsetOf (b : Byte) : (offsetOf b).toNat = b.toNat / 128 := by
  have hb := b.isLt
  rw [offsetOf_eq_decide, Bool.toNat, Bool.cond_decide]
  split <;> omega

theorem toNat_internalOf (b : Byte) : (internalOf b).toNat = b.toNat / 64 % 2 := by
  rw [internalOf_eq_decide, Bool.toNat, Bool.cond_decide]
  split <;> omega

theorem toNat_responseOf (b : Byte) : (responseOf b).toNat = b.toNat / 16 % 2 := by
  rw [responseOf_eq_decide, Bool.toNat, Bool.cond_decide]
  split <;> omega

section
variable (o i r : Bool) (t n : BitVec 4) (d : BitVec 2) (a : BitVec 3)

@[simp] theorem offsetOf_headerByte1 : offsetOf (headerByte1 o i t d) = o := by
  have ht := t.isLt
  have hd := d.isLt
  have hi := i.toNat_le
  apply bool_eq_of_toNat_eq
  rw [toNat_offsetOf, toNat_headerByte1]
  omega

@[simp] theorem internalOf_headerByte1 : internalOf (headerByte1 o i t d) = i := by
  have ht := t.isLt
  have hd := d.isLt
  have hi := i.toNat_le
  apply bool_eq_of_toNat_eq
  rw [toNat_internalOf, toNat_headerByte1]
  omega

@[simp] theorem typeCodeOf_headerByte1 : typeCodeOf (headerByte1 o i t d) = t := by
  have ht := t.isLt
  have hd := d.isLt
  apply BitVec.eq_of_toNat_eq
  rw [toNat_typeCodeOf, toNat_headerByte1]
  omega

@[simp] theorem dataLengthHigh_headerByte1 : (headerByte1 o i t d).extractLsb' 0 2 = d := by
  have hd := d.isLt
  apply BitVec.eq_of_toNat_eq
  rw [toNat_dataLengthHigh, toNat_headerByte1]
  omega

@[simp] theorem acknumOf_headerByte2 : acknumOf (headerByte2 a r n) = a := by
  have hn := n.isLt
  have hr := r.toNat_le
  apply BitVec.eq_of_toNat_eq
  rw [toNat_acknumOf, toNat_headerByte2]
  omega

@[simp] theorem responseOf_headerByte2 : responseOf (headerByte2 a r n) = r := by
  have hn := n.isLt
  have hr := r.toNat_le
  apply bool_eq_of_toNat_eq
  rw [toNat_responseOf, toNat_headerByte2]
  omega

@[simp] theorem idLengthOf_headerByte2 : idLengthOf (headerByte2 a r n) = n := by
  have hn := n.isLt
  apply BitVec.eq_of_toNat_eq
  rw [toNat_idLengthOf, toNat_headerByte2]
  omega

end

/-- No bit of header byte 1 is lost in its fields. -/
theorem headerByte1_of_fields (b : Byte) :
    headerByte1 (offsetOf b) (internalOf b) (typeCodeOf b) (b.extractLsb' 0 2) = b := by
  have hb := b.isLt
  apply BitVec.eq_of_toNat_eq
  rw [toNat_headerByte1, toNat_offsetOf, toNat_internalOf, toNat_typeCodeOf, toNat_dataLengthHigh]
  omega

/-- No bit of header byte 2 is lost in its fields. -/
theorem headerByte2_of_fields (b : Byte) : headerByte2 (acknumOf b) (responseOf b) (idLengthOf b) = b := by
  have hb := b.isLt
  apply BitVec.eq_of_toNat_eq
  rw [toNat_headerByte2, toNat_acknumOf, toNat_responseOf, toNat_idLengthOf]
  omega

/-- A byte of the second of two joined strings. -/
theorem byteAt_append_length_add (a b : Bytes) (i : Nat) : byteAt (a ++ b) (a.length + i) = byteAt b i := by
  rw [byteAt, List.getD_append_right _ _ _ _ (Nat.le_add_right ..), Nat.add_sub_cancel_left, byteAt]

/-! ### A packet as three header bytes, id, payload and checksum (R54, R73) -/

/-- The bytes of a packet by the parts of the map of R54. -/
def layoutBytes (b0 b1 b2 : Byte) (id payload : Bytes) (c : Word16) : Bytes :=
  [b0, b1, b2] ++ id ++ payload ++ [lowByte c, highByte c]

@[simp] theorem length_layoutBytes (b0 b1 b2 : Byte) (id payload : Bytes) (c : Word16) :
    (layoutBytes b0 b1 b2 id payload c).length = 3 + id.length + payload.length + 2 := by
  simp only [layoutBytes, List.length_append, List.length_cons, List.length_nil]

section
variable {b0 b1 b2 : Byte} {id payload : Bytes} {c : Word16} (hid : (idLengthOf b2).toNat = id.length)
  (hdl : (dataLengthOf b0 b1).toNat = payload.length)
include hid

theorem viewIdLength_layoutBytes : (viewIdLength (layoutBytes b0 b1 b2 id payload c)).toNat = id.length := hid

theorem viewMsgId_layoutBytes : viewMsgId (layoutBytes b0 b1 b2 id payload c) = id := by
  rw [viewMsgId, viewIdLength_layoutBytes hid, slice]
  simp [layoutBytes]

include hdl

theorem checksumIndex_layoutBytes :
    checksumIndex (layoutBytes b0 b1 b2 id payload c) = 3 + id.length + payload.length := by
  rw [checksumIndex, viewIdLength_layoutBytes hid]
  exact congrArg (_ + ·) hdl

theorem viewWireSize_layoutBytes :
    viewWireSize (layoutBytes b0 b1 b2 id payload c) = (layoutBytes b0 b1 b2 id payload c).length := by
  rw [viewWireSize, checksumIndex_layoutBytes hid hdl, length_layoutBytes]

theorem viewPayload_layoutBytes : viewPayload (layoutBytes b0 b1 b2 id payload c) = payload := by
  rw [viewPayload, viewIdLength_layoutBytes hid, slice]
  have : (viewDataLength (layoutBytes b0 b1 b2 id payload c)).toNat = payload.length := hdl
  rw [this, layoutBytes, List.append_assoc _ payload,
    List.drop_left' (by simp only [List.length_append, List.length_cons, List.length_nil]), List.take_left]

theorem take_checksumIndex_layoutBytes :
    (layoutBytes b0 b1 b2 id payload c).take (checksumIndex (layoutBytes b0 b1 b2 id payload c)) =
      [b0, b1, b2] ++ id ++ payload := by
  rw [checksumIndex_layoutBytes hid hdl, layoutBytes, List.take_left']
  simp only [List.length_append, List.length_cons, List.length_nil]

theorem viewChecksum_layoutBytes : viewChecksum (layoutBytes b0 b1 b2 id payload c) = c := by
  have hlen : ([b0, b1, b2] ++ id ++ payload).length = 3 + id.length + payload.length := by
    simp only [List.length_append, List.length_cons, List.length_nil]
  have hread (i : Nat) := byteAt_append_length_add ([b0, b1, b2] ++ id ++ payload) [lowByte c, highByte c] i
  rw [viewChecksum, checksumIndex_layoutBytes hid hdl, layoutBytes, ← hlen, hread 1]
  exact (congrArg (word16 · (highByte c)) (hread 0)).trans (word16_lowByte_highByte c)

end

/-- The bytes at an index and after it end a string that is two bytes longer than the index. -/
theorem drop_eq_byteAt_pair {p : Bytes} {k : Nat} (h : p.length = k + 2) :
    p.drop k = [byteAt p k, byteAt p (k + 1)] := by
  refine List.ext_getElem (by simp [h]) fun i _ hi => ?_
  match i, hi with
  | 0, _ => simp [byteAt, h]
  | 1, _ => simp [byteAt, h]

theorem take_three_eq_byteAt {p : Bytes} (h : 3 ≤ p.length) : p.take 3 = [byteAt p 0, byteAt p 1, byteAt p 2] := by
  match p, h with
  | _ :: _ :: _ :: _, _ => rfl

theorem length_viewPayload {p : Bytes} (h : checksumIndex p ≤ p.length) :
    (viewPayload p).length = (viewDataLength p).toNat := by
  rw [checksumIndex] at h
  rw [viewPayload, slice, List.length_take, List.length_drop]
  omega

/-- A byte string as long as its header says is cut by the map of R54 into parts that make it up. -/
theorem eq_layoutBytes {p : Bytes} (h : p.length = viewWireSize p) :
    p = layoutBytes (byteAt p 0) (byteAt p 1) (byteAt p 2) (viewMsgId p) (viewPayload p) (viewChecksum p) := by
  have hend : p.drop (checksumIndex p) = [lowByte (viewChecksum p), highByte (viewChecksum p)] := by
    rw [drop_eq_byteAt_pair h, viewChecksum, lowByte_word16, highByte_word16]
  have hlen : 3 ≤ p.length := by rw [h, viewWireSize, checksumIndex]; omega
  have hcut : p.drop (checksumIndex p) =
      ((p.drop 3).drop (viewIdLength p).toNat).drop (viewDataLength p).toNat := by
    rw [List.drop_drop, List.drop_drop, checksumIndex, Nat.add_assoc]
  rw [layoutBytes, ← hend, hcut, ← take_three_eq_byteAt hlen, viewMsgId, viewPayload, slice, slice, ← List.drop_drop]
  simp only [List.append_assoc, List.take_append_drop]

end Sys2Proof.Machine
end

section
/-! PROOFS. The encoder and the decoder (spec/30_encoding.md sections 2 to 5 and 8, R21, R35, R240), format by
format. -/

namespace Sys2Proof.Machine

theorem nonZero_iff (b : Byte) : nonZero b = true ↔ b ≠ delimiter := by
  simp [nonZero]

/-! ### Dispatch words (R84) -/

/-- The word of a state and a non-zero byte is the DECODE row of that state. -/
theorem decodeDispatch_dispatchBytes (st : FsmState) {b : Byte} (hb : b ≠ delimiter) :
    decodeDispatch (dispatchBytes st b) = .ok (stateRow st b) := by
  have hrow : dispatchRow st.code.toNat b = .ok (stateRow st b) := by cases st <;> rfl
  have hcode : (st.code.setWidth 8).toNat = st.code.toNat := BitVec.toNat_setWidth_of_le (by decide)
  have hlt : st.code.toNat < 16 := st.code.isLt
  rw [dispatchBytes, decodeDispatch, hcode, if_neg hlt.not_ge, if_neg hb, hrow]

theorem encode_stateRow (st : FsmState) (b : Byte) : encode (stateRow st b) = some (.dispatch, dispatchBytes st b) := by
  cases st <;> rfl

theorem wellFormed_stateRow (st : FsmState) (b : Byte) : wellFormed (stateRow st b) = nonZero b := by
  cases st <;> rfl

/-- A state code stands for the row of a state, or for none. -/
theorem dispatchRow_ok {code : Nat} {b : Byte} {i : Instr} (h : dispatchRow code b = .ok i) :
    ∃ st, i = stateRow st b := by
  unfold dispatchRow at h
  split at h
  case h_1 => exact ⟨.frameOffset, (Except.ok.inj h).symm⟩
  case h_2 => exact ⟨.headerB0, (Except.ok.inj h).symm⟩
  case h_3 => exact ⟨.headerB1, (Except.ok.inj h).symm⟩
  case h_4 => exact ⟨.headerB2, (Except.ok.inj h).symm⟩
  case h_5 => exact ⟨.msgId, (Except.ok.inj h).symm⟩
  case h_6 => exact ⟨.offsetB0, (Except.ok.inj h).symm⟩
  case h_7 => exact ⟨.offsetB1, (Except.ok.inj h).symm⟩
  case h_8 => exact ⟨.payload, (Except.ok.inj h).symm⟩
  case h_9 => exact ⟨.crcB0, (Except.ok.inj h).symm⟩
  case h_10 => exact ⟨.crcB1, (Except.ok.inj h).symm⟩
  case h_11 => cases h

/-! ### Bytes on the wire (R71, R72) -/

theorem ne_nil_of_bodyWellFormed {e : Bytes} (h : bodyWellFormed e = true) : e ≠ [] := by
  rintro rfl
  cases h

theorem wireRow_frame {body : Bytes} (h : bodyWellFormed body = true) :
    wireRow (body ++ [delimiter]) = some (.frame body) := by
  have hne : body ++ [delimiter] ≠ [delimiter] := fun heq =>
    ne_nil_of_bodyWellFormed h (List.append_left_eq_self.mp heq)
  rw [wireRow, if_neg hne, List.getLast?_concat, List.dropLast_concat, if_pos ⟨rfl, h⟩]

theorem decodeWire_of_wireRow_none {bs : Bytes} (h : wireRow bs = none) : decodeWire bs = .ok (.feedStream bs) := by
  rw [decodeWire, h, Option.getD_none]

theorem encode_feedStream_of_none {bs : Bytes} (h : wireRow bs = none) :
    encode (.feedStream bs) = some (.wire, bs) :=
  if_pos (Option.isNone_iff_eq_none.mpr h)

/-! ### Packets (R54, R73) -/

/-- The fields a packet's bytes hold (R54). -/
def fieldsOf (p : Bytes) : PacketFields :=
  { typeCode := viewTypeCode p, internal := viewInternal p, offset := viewOffset p, response := viewResponse p,
    acknum := viewAcknum p, msgId := viewMsgId p, payload := viewPayload p, checksum := viewChecksum p }

/-- The bytes of a packet row: at least five, with an id, and as many as the header says. -/
theorem packetRow_cases (p : Bytes) :
    ((viewIdLength p).toNat ≠ 0 ∧ p.length = viewWireSize p ∧ packetRow p = some (.packet (fieldsOf p))) ∨
      packetRow p = none := by
  unfold packetRow
  split
  · exact .inr rfl
  split
  · exact .inr rfl
  split
  · exact .inr rfl
  · rename_i h0 hlen
    exact .inl ⟨h0, not_not.mp hlen, rfl⟩

theorem packetRow_of_length {p : Bytes} (h0 : (viewIdLength p).toNat ≠ 0) (hlen : p.length = viewWireSize p) :
    packetRow p = some (.packet (fieldsOf p)) := by
  have h6 := six_le_viewWireSize h0
  rw [packetRow, if_neg (by omega), if_neg h0, if_neg (not_not.mpr hlen)]
  rfl

theorem encode_validate_of_none {p : Bytes} (h : packetRow p = none) : encode (.validate p) = some (.packet, p) :=
  if_pos (Option.isNone_iff_eq_none.mpr h)

theorem wellFormed_packet_iff (f : PacketFields) :
    wellFormed (.packet f) = true ↔ 1 ≤ f.msgId.length ∧ f.msgId.length ≤ 15 ∧ f.payload.length ≤ 1023 := by
  simp only [wellFormed, Bool.and_eq_true, decide_eq_true_eq, and_assoc]

theorem packetBytes_eq_layoutBytes (f : PacketFields) : packetBytes f = layoutBytes (BitVec.ofNat 8 f.payload.length)
    (headerByte1 f.offset f.internal f.typeCode (BitVec.ofNat 2 (f.payload.length / 256)))
    (headerByte2 f.acknum f.response (BitVec.ofNat 4 f.msgId.length)) f.msgId f.payload f.checksum := rfl

/-- A `data_length` below 1024 is read back from the two header bytes it is split over (R74, R75, R77). -/
theorem toNat_dataLengthOf_headerByte1 (o i : Bool) (t : BitVec 4) {n : Nat} (h : n ≤ 1023) :
    (dataLengthOf (BitVec.ofNat 8 n) (headerByte1 o i t (BitVec.ofNat 2 (n / 256)))).toNat = n := by
  rw [toNat_dataLengthOf, ← toNat_dataLengthHigh, dataLengthHigh_headerByte1, BitVec.toNat_ofNat, BitVec.toNat_ofNat]
  omega

theorem toNat_idLengthOf_headerByte2 (a : BitVec 3) (r : Bool) {n : Nat} (h : n ≤ 15) :
    (idLengthOf (headerByte2 a r (BitVec.ofNat 4 n))).toNat = n := by
  rw [idLengthOf_headerByte2, BitVec.toNat_ofNat]
  omega

theorem fieldsOf_packetBytes {f : PacketFields} (hid : f.msgId.length ≤ 15) (hdl : f.payload.length ≤ 1023) :
    fieldsOf (packetBytes f) = f := by
  have hid' := toNat_idLengthOf_headerByte2 f.acknum f.response hid
  have hdl' := toNat_dataLengthOf_headerByte1 f.offset f.internal f.typeCode hdl
  rw [packetBytes_eq_layoutBytes, fieldsOf, viewMsgId_layoutBytes hid', viewPayload_layoutBytes hid' hdl',
    viewChecksum_layoutBytes hid' hdl']
  simp [layoutBytes, viewTypeCode, viewInternal, viewOffset, viewResponse, viewAcknum, byteAt]

theorem packetRow_packetBytes {f : PacketFields} (hpos : 1 ≤ f.msgId.length) (hid : f.msgId.length ≤ 15)
    (hdl : f.payload.length ≤ 1023) : packetRow (packetBytes f) = some (.packet f) := by
  have hid' := toNat_idLengthOf_headerByte2 f.acknum f.response hid
  have hdl' := toNat_dataLengthOf_headerByte1 f.offset f.internal f.typeCode hdl
  have hn : (viewIdLength (packetBytes f)).toNat = f.msgId.length := hid'
  have hsize : viewWireSize (packetBytes f) = (packetBytes f).length := viewWireSize_layoutBytes hid' hdl'
  rw [packetRow_of_length (by omega) hsize.symm, fieldsOf_packetBytes hid hdl]

/-- A packet's bytes are what the encoder writes for its fields. -/
theorem packetBytes_fieldsOf {p : Bytes} (h : p.length = viewWireSize p) : packetBytes (fieldsOf p) = p := by
  have hw : p.length = 3 + (viewIdLength p).toNat + (viewDataLength p).toNat + 2 := h
  have hid : (viewMsgId p).length = (viewIdLength p).toNat := length_viewMsgId (by omega)
  have hdl : (viewPayload p).length = (viewDataLength p).toNat := length_viewPayload (by rw [checksumIndex]; omega)
  have hb0 : BitVec.ofNat 8 (viewPayload p).length = byteAt p 0 := by
    apply BitVec.eq_of_toNat_eq
    have hlt := (byteAt p 0).isLt
    rw [hdl, toNat_viewDataLength, BitVec.toNat_ofNat]
    omega
  have hhigh : BitVec.ofNat 2 ((viewPayload p).length / 256) = (byteAt p 1).extractLsb' 0 2 := by
    apply BitVec.eq_of_toNat_eq
    have hlt := (byteAt p 0).isLt
    rw [hdl, toNat_viewDataLength, BitVec.toNat_ofNat, toNat_dataLengthHigh]
    omega
  have hb1 : headerByte1 (viewOffset p) (viewInternal p) (viewTypeCode p)
      (BitVec.ofNat 2 ((viewPayload p).length / 256)) = byteAt p 1 := by
    rw [hhigh]
    exact headerByte1_of_fields _
  have hb2 : headerByte2 (viewAcknum p) (viewResponse p) (BitVec.ofNat 4 (viewMsgId p).length) = byteAt p 2 := by
    rw [hid, BitVec.ofNat_toNat, BitVec.setWidth_eq]
    exact headerByte2_of_fields _
  calc packetBytes (fieldsOf p)
      = layoutBytes (byteAt p 0) (byteAt p 1) (byteAt p 2) (viewMsgId p) (viewPayload p) (viewChecksum p) := by
        rw [packetBytes_eq_layoutBytes, ← hb0, ← hb1, ← hb2]; rfl
    _ = p := (eq_layoutBytes h).symm

/-! ### Codes (R21, R35, R79, R240) -/

theorem decodeErrorCode_unknownMessageType {info : BitVec 4} (h : 13 ≤ info.toNat) :
    decodeErrorCode (codeByte (7 + 16 * info.toNat)) = .ok (.errUnknownMessageType info) := by
  have hlt := info.isLt
  have hcode : ((BitVec.ofNat 8 (7 + 16 * info.toNat)).extractLsb' 0 4).toNat = 7 := by
    rw [BitVec.extractLsb'_toNat, BitVec.toNat_ofNat, Nat.shiftRight_zero]
    omega
  have hinfo : ((BitVec.ofNat 8 (7 + 16 * info.toNat)).extractLsb' 4 4).toNat = info.toNat := by
    rw [BitVec.extractLsb'_toNat, BitVec.toNat_ofNat, Nat.shiftRight_eq_div_pow]
    omega
  rw [codeByte, decodeErrorCode, hcode, hinfo]
  simp only [errorRow, if_pos h, BitVec.ofNat_toNat, BitVec.setWidth_eq]

/-! ### Decode of encode -/

/-- Settles O1, format by format: the rows whose operands fill a word by the lemmas above, the codes by evaluation. -/
theorem decodeOfEncode : Obligations.DecodeOfEncode := by
  intro i f bs hwf henc
  have hdispatch (st : FsmState) (b : Byte) (hw : nonZero b = true) (he : encode (stateRow st b) = some (f, bs)) :
      decode f bs = .ok (stateRow st b) := by
    rw [encode_stateRow] at he
    cases he
    exact decodeDispatch_dispatchBytes st ((nonZero_iff b).mp hw)
  cases i
  case new c => cases c <;> cases henc; rfl
  case decodeFrameOffset b => exact hdispatch .frameOffset b hwf henc
  case decodeHeaderB0 b => exact hdispatch .headerB0 b hwf henc
  case decodeHeaderB1 b => exact hdispatch .headerB1 b hwf henc
  case decodeHeaderB2 b => exact hdispatch .headerB2 b hwf henc
  case decodeMsgId b => exact hdispatch .msgId b hwf henc
  case decodeOffsetB0 b => exact hdispatch .offsetB0 b hwf henc
  case decodeOffsetB1 b => exact hdispatch .offsetB1 b hwf henc
  case decodePayload b => exact hdispatch .payload b hwf henc
  case decodeCrcB0 b => exact hdispatch .crcB0 b hwf henc
  case decodeCrcB1 b => exact hdispatch .crcB1 b hwf henc
  case frame body =>
    cases henc
    show decodeWire _ = _
    rw [decodeWire, wireRow_frame hwf, Option.getD_some]
  case feedStream w =>
    obtain ⟨hrow, heq⟩ := Option.ite_none_right_eq_some.mp henc
    cases heq
    exact decodeWire_of_wireRow_none (Option.isNone_iff_eq_none.mp hrow)
  case packet p =>
    cases henc
    obtain ⟨hpos, hid, hdl⟩ := (wellFormed_packet_iff p).mp hwf
    show decodePacket _ = _
    rw [decodePacket, packetRow_packetBytes hpos hid hdl, Option.getD_some]
  case validate p =>
    obtain ⟨hrow, heq⟩ := Option.ite_none_right_eq_some.mp henc
    cases heq
    show decodePacket _ = _
    rw [decodePacket, Option.isNone_iff_eq_none.mp hrow, Option.getD_none]
  case headerB1 o n t d =>
    cases henc
    rw [decode, decodeHeader1, offsetOf_headerByte1, internalOf_headerByte1, typeCodeOf_headerByte1,
      dataLengthHigh_headerByte1]
  case headerB2 a r n =>
    cases henc
    rw [decode, decodeHeader2, acknumOf_headerByte2, responseOf_headerByte2, idLengthOf_headerByte2]
  case checksumField c =>
    cases henc
    rw [decode, decodeChecksumField, word16_lowByte_highByte]
  case errUnknownMessageType info =>
    cases henc
    exact decodeErrorCode_unknownMessageType (of_decide_eq_true hwf)
  all_goals cases henc
  all_goals rfl

/-! ### What the decoder accepts -/

/-- What O2 says of one word: its instruction is well-formed, and the encoder writes the word, or, where the format has
bits that a row ignores, a word of the format that decodes alike. -/
def Reencodes (f : Format) (bs : Bytes) (i : Instr) : Prop :=
  wellFormed i = true ∧ ∃ bs', encode i = some (f, bs') ∧ decode f bs' = .ok i ∧ (f ≠ .port → f ≠ .dispatch → bs' = bs)

/-- A word that is the very encoding of a well-formed instruction. -/
theorem reencodes_of_encode {f : Format} {bs : Bytes} {i : Instr} (hw : wellFormed i = true)
    (he : encode i = some (f, bs)) : Reencodes f bs i :=
  ⟨hw, bs, he, decodeOfEncode i f bs hw he, fun _ _ => rfl⟩

/-- In the port and dispatch formats any encoding of the instruction will do. -/
theorem reencodes_of_ignored_bits {f : Format} {bs bs' : Bytes} {i : Instr} (hf : f = .port ∨ f = .dispatch)
    (hw : wellFormed i = true) (he : encode i = some (f, bs')) : Reencodes f bs i :=
  ⟨hw, bs', he, decodeOfEncode i f bs' hw he, fun hp hd => absurd hf (not_or.mpr ⟨hp, hd⟩)⟩

theorem decodePort_ok {bs : Bytes} {i : Instr} (h : decodePort bs = .ok i) :
    i = .new none ∨ i = .reset ∨ i = .idle ∨ ∃ b, i = .decode b := by
  unfold decodePort at h
  split at h
  case h_1 w b =>
    split at h
    · cases h
    split at h
    · exact .inl (Except.ok.inj h).symm
    split at h
    · split at h
      · exact .inr (.inl (Except.ok.inj h).symm)
      · exact .inr (.inr (.inr ⟨b, (Except.ok.inj h).symm⟩))
    · exact .inr (.inr (.inl (Except.ok.inj h).symm))
  case h_2 => cases h

theorem decodeDispatch_ok {bs : Bytes} {i : Instr} (h : decodeDispatch bs = .ok i) :
    i = .decodeDelim ∨ ∃ st b, nonZero b = true ∧ i = stateRow st b := by
  unfold decodeDispatch at h
  split at h
  case h_1 b st =>
    split at h
    · cases h
    split at h
    · exact .inl (Except.ok.inj h).symm
    · rename_i hb
      obtain ⟨r, hr⟩ := dispatchRow_ok h
      exact .inr ⟨r, b, (nonZero_iff b).mpr hb, hr⟩
  case h_2 => cases h

theorem reencodes_port {bs : Bytes} {i : Instr} (h : decodePort bs = .ok i) : Reencodes .port bs i := by
  rcases decodePort_ok h with rfl | rfl | rfl | ⟨b, rfl⟩
  all_goals exact reencodes_of_ignored_bits (.inl rfl) rfl rfl

theorem reencodes_dispatch {bs : Bytes} {i : Instr} (h : decodeDispatch bs = .ok i) : Reencodes .dispatch bs i := by
  rcases decodeDispatch_ok h with rfl | ⟨st, b, hb, rfl⟩
  · exact reencodes_of_ignored_bits (.inr rfl) rfl rfl
  · exact reencodes_of_ignored_bits (.inr rfl) ((wellFormed_stateRow st b).trans hb) (encode_stateRow st b)

theorem reencodes_wire {bs : Bytes} {i : Instr} (h : decodeWire bs = .ok i) : Reencodes .wire bs i := by
  rcases decodeWire_cases bs with ⟨rfl, hd⟩ | ⟨body, rfl, hwf, hd⟩ | ⟨hrow, hd⟩ <;> rw [hd] at h <;> cases h
  · exact reencodes_of_encode rfl rfl
  · exact reencodes_of_encode hwf rfl
  · exact reencodes_of_encode rfl (encode_feedStream_of_none hrow)

theorem reencodes_packet {p : Bytes} {i : Instr} (h : decodePacket p = .ok i) : Reencodes .packet p i := by
  rw [decodePacket] at h
  rcases packetRow_cases p with ⟨h0, hlen, hrow⟩ | hrow
  · rw [hrow] at h
    cases h
    have hw : p.length = 3 + (viewIdLength p).toNat + (viewDataLength p).toNat + 2 := hlen
    have hid : (viewMsgId p).length = (viewIdLength p).toNat := length_viewMsgId (by omega)
    have hdl : (viewPayload p).length = (viewDataLength p).toNat := length_viewPayload (by rw [checksumIndex]; omega)
    have hid15 := (viewIdLength p).isLt
    have hdl1023 := (viewDataLength p).isLt
    refine reencodes_of_encode ((wellFormed_packet_iff _).mpr ?_)
      (congrArg (fun q => some (Format.packet, q)) (packetBytes_fieldsOf hlen))
    show 1 ≤ (viewMsgId p).length ∧ (viewMsgId p).length ≤ 15 ∧ (viewPayload p).length ≤ 1023
    omega
  · rw [hrow] at h
    cases h
    exact reencodes_of_encode rfl (encode_validate_of_none hrow)

theorem reencodes_header0 {bs : Bytes} {i : Instr} (h : decodeHeader0 bs = .ok i) : Reencodes .headerB0 bs i := by
  unfold decodeHeader0 at h
  split at h <;> cases h
  exact reencodes_of_encode rfl rfl

theorem reencodes_header1 {bs : Bytes} {i : Instr} (h : decodeHeader1 bs = .ok i) : Reencodes .headerB1 bs i := by
  unfold decodeHeader1 at h
  split at h <;> cases h
  exact reencodes_of_encode rfl (by rw [encode, headerByte1_of_fields])

theorem reencodes_header2 {bs : Bytes} {i : Instr} (h : decodeHeader2 bs = .ok i) : Reencodes .headerB2 bs i := by
  unfold decodeHeader2 at h
  split at h <;> cases h
  exact reencodes_of_encode rfl (by rw [encode, headerByte2_of_fields])

theorem reencodes_checksumField {bs : Bytes} {i : Instr} (h : decodeChecksumField bs = .ok i) :
    Reencodes .checksumField bs i := by
  unfold decodeChecksumField at h
  split at h <;> cases h
  exact reencodes_of_encode rfl (by rw [encode, lowByte_word16, highByte_word16])

/-- A code that fills its one-byte word. -/
theorem reencodes_codeByte {f : Format} {b : Byte} {n : Nat} {i : Instr} (hn : b.toNat = n) (hw : wellFormed i = true)
    (he : encode i = some (f, codeByte n)) : Reencodes f [b] i := by
  refine reencodes_of_encode hw ?_
  rw [he, ← hn, codeByte, BitVec.ofNat_toNat, BitVec.setWidth_eq]

theorem reencodes_typeCode {bs : Bytes} {i : Instr} (h : decodeTypeCode bs = .ok i) : Reencodes .typeCode bs i := by
  unfold decodeTypeCode at h
  split at h
  case h_1 b =>
    split at h <;> cases h
    all_goals exact reencodes_codeByte ‹_› rfl rfl
  case h_2 => cases h

theorem reencodes_stateCode {bs : Bytes} {i : Instr} (h : decodeStateCode bs = .ok i) : Reencodes .stateCode bs i := by
  unfold decodeStateCode at h
  split at h
  case h_1 b =>
    split at h
    case h_11 => split at h <;> cases h
    all_goals
      cases h
      exact reencodes_codeByte ‹_› rfl rfl
  case h_2 => cases h

theorem reencodes_outcomeCode {bs : Bytes} {i : Instr} (h : decodeOutcomeCode bs = .ok i) :
    Reencodes .outcomeCode bs i := by
  unfold decodeOutcomeCode at h
  split at h
  case h_1 b =>
    split at h <;> cases h
    all_goals exact reencodes_codeByte ‹_› rfl rfl
  case h_2 => cases h

/-- An error row is written back with its code in the low half of the byte and its info in the high half. -/
theorem errorRow_ok {code info : Nat} {i : Instr} (hinfo : info < 16) (h : errorRow code info = .ok i) :
    wellFormed i = true ∧ encode i = some (.errorCode, codeByte (code + 16 * info)) := by
  unfold errorRow at h
  split at h
  case h_7 =>
    split at h <;> cases h
    rename_i hlo
    have hn : (BitVec.ofNat 4 info).toNat = info := Nat.mod_eq_of_lt hinfo
    exact ⟨decide_eq_true (by rw [hn]; exact hlo), by rw [encode, hn]⟩
  all_goals cases h
  all_goals exact ⟨rfl, rfl⟩

theorem reencodes_errorCode {bs : Bytes} {i : Instr} (h : decodeErrorCode bs = .ok i) : Reencodes .errorCode bs i := by
  unfold decodeErrorCode at h
  split at h
  case h_1 b =>
    obtain ⟨hw, he⟩ := errorRow_ok (b.extractLsb' 4 4).isLt h
    refine reencodes_codeByte ?_ hw he
    have hb := b.isLt
    rw [BitVec.extractLsb'_toNat, BitVec.extractLsb'_toNat, Nat.shiftRight_zero, Nat.shiftRight_eq_div_pow]
    omega
  case h_2 => cases h

/-- Settles O2, by the shape of what each format's decoder accepts. -/
theorem decodedWordsAreEncodings : Obligations.DecodedWordsAreEncodings := by
  intro f bs i h
  show Reencodes f bs i
  cases f
  case port => exact reencodes_port h
  case dispatch => exact reencodes_dispatch h
  case wire => exact reencodes_wire h
  case packet => exact reencodes_packet h
  case headerB0 => exact reencodes_header0 h
  case headerB1 => exact reencodes_header1 h
  case headerB2 => exact reencodes_header2 h
  case checksumField => exact reencodes_checksumField h
  case typeCode => exact reencodes_typeCode h
  case stateCode => exact reencodes_stateCode h
  case outcomeCode => exact reencodes_outcomeCode h
  case errorCode => exact reencodes_errorCode h

/-- Settles O3: thirteen closed words. -/
theorem tableWordsDecode : Obligations.TableWordsDecode := by
  unfold Obligations.TableWordsDecode
  decide

end Sys2Proof.Machine
end

section
/-! PROOFS. Framing (spec/40_framing.md): frame bodies as chains of blocks, the bulk coder, and the online de-framer
over a body (R101 to R109, R112, R114, R115). -/

namespace Sys2Proof.Machine

/-! ### Blocks and the bodies they make up (R72, R101) -/

/-- A block whose code byte is one more than its number of data bytes, none of them zero (R72). -/
def Block.proper (b : Block) : Prop := b.code.toNat = b.data.length + 1 ∧ (0#8 : Byte) ∉ b.data

/-- The bytes of a block: its code byte and its data (R72). -/
def Block.bytes (b : Block) : Bytes := b.code :: b.data

/-- The body that a chain of blocks makes up. -/
def bodyOf (bs : List Block) : Bytes := bs.flatMap Block.bytes

@[simp] theorem bodyOf_nil : bodyOf [] = [] := rfl

@[simp] theorem bodyOf_cons (b : Block) (bs : List Block) : bodyOf (b :: bs) = b.code :: (b.data ++ bodyOf bs) := rfl

theorem Block.proper.code_ne_zero {b : Block} (h : b.proper) : b.code ≠ 0#8 := by
  intro h0
  have hcode := h.1
  rw [h0] at hcode
  exact absurd hcode (Nat.succ_ne_zero _).symm

theorem zero_notMem_bodyOf {bs : List Block} (h : ∀ b ∈ bs, b.proper) : (0#8 : Byte) ∉ bodyOf bs := by
  simp only [bodyOf, List.mem_flatMap, not_exists, not_and]
  intro b hb hmem
  rcases List.mem_cons.mp hmem with h0 | hdata
  · exact (h b hb).code_ne_zero h0.symm
  · exact (h b hb).2 hdata

/-- Fuel beyond the length of the body changes nothing. -/
theorem cutBlocks_eq_of_le {m n : Nat} {e : Bytes} (hm : e.length ≤ m) (hn : e.length ≤ n) :
    cutBlocks m e = cutBlocks n e := by
  induction m generalizing n e with
  | zero => rw [List.eq_nil_of_length_eq_zero (Nat.le_zero.mp hm)]; simp [cutBlocks]
  | succ m ih =>
    match e, n with
    | [], _ => simp [cutBlocks]
    | c :: rest, n + 1 =>
      simp only [List.length_cons] at hm hn
      have hdrop := List.length_drop (i := c.toNat - 1) (l := rest)
      simp only [cutBlocks]
      rw [ih (n := n) (e := rest.drop (c.toNat - 1)) (by omega) (by omega)]

@[simp] theorem blocks?_nil : blocks? [] = some [] := rfl

/-- R106's loop, one block at a time. -/
theorem blocks?_cons (c : Byte) (rest : Bytes) : blocks? (c :: rest) =
    if c = 0#8 then none
    else if rest.length < c.toNat - 1 then none
    else if (rest.take (c.toNat - 1)).contains 0#8 then none
    else (blocks? (rest.drop (c.toNat - 1))).map fun bs => ⟨c, rest.take (c.toNat - 1)⟩ :: bs := by
  have hdrop := List.length_drop (i := c.toNat - 1) (l := rest)
  rw [blocks?, List.length_cons, cutBlocks,
    cutBlocks_eq_of_le (n := (rest.drop (c.toNat - 1)).length) (by omega) le_rfl]
  rfl

theorem blocks?_cons_eq_none {c : Byte} {rest : Bytes}
    (h : c = 0 ∨ rest.length + 1 < c.toNat ∨ (0#8 : Byte) ∈ rest.take (c.toNat - 1)) : blocks? (c :: rest) = none := by
  rw [blocks?_cons]
  split
  · rfl
  split
  · rfl
  split
  · rfl
  · rename_i hc hlen hmem
    rcases h with h | h | h
    · exact absurd h hc
    · omega
    · exact absurd (List.contains_iff_mem.mpr h) hmem

/-- A block and a rest are cut between them. -/
theorem blocks?_block_append {b : Block} (hb : b.proper) (rest : Bytes) :
    blocks? (b.code :: (b.data ++ rest)) = (blocks? rest).map (b :: ·) := by
  obtain ⟨hlen, hmem⟩ := id hb
  have hn : b.code.toNat - 1 = b.data.length := by omega
  rw [blocks?_cons, if_neg hb.code_ne_zero, hn, if_neg (by simp), List.take_left, List.drop_left,
    if_neg (fun h => hmem (List.contains_iff_mem.mp h))]

theorem blocks?_bodyOf {bs : List Block} (h : ∀ b ∈ bs, b.proper) : blocks? (bodyOf bs) = some bs := by
  induction bs with
  | nil => rfl
  | cons b bs ih =>
    obtain ⟨hb, hbs⟩ := List.forall_mem_cons.mp h
    rw [bodyOf_cons, blocks?_block_append hb, ih hbs, Option.map_some]

/-- A body that is cut into blocks is made up of them, and each is proper. -/
theorem eq_bodyOf_of_blocks? {e : Bytes} {bs : List Block} (h : blocks? e = some bs) :
    e = bodyOf bs ∧ ∀ b ∈ bs, b.proper := by
  induction bs generalizing e with
  | nil =>
    match e with
    | [] => exact ⟨rfl, by simp⟩
    | c :: rest =>
      rw [blocks?_cons] at h
      split at h <;> [cases h; skip]
      split at h <;> [cases h; skip]
      split at h <;> [cases h; skip]
      obtain ⟨_, _, hcons⟩ := Option.map_eq_some_iff.mp h
      cases hcons
  | cons b bs ih =>
    match e with
    | [] => cases h
    | c :: rest =>
      rw [blocks?_cons] at h
      split at h <;> [cases h; skip]
      split at h <;> [cases h; skip]
      split at h <;> [cases h; skip]
      rename_i hc hlen hmem
      obtain ⟨bs', hrest, hcons⟩ := Option.map_eq_some_iff.mp h
      cases hcons
      obtain ⟨heq, hproper⟩ := ih hrest
      have hpos : c.toNat ≠ 0 := fun h0 => hc (BitVec.eq_of_toNat_eq h0)
      refine ⟨by rw [bodyOf_cons, ← heq, List.take_append_drop], List.forall_mem_cons.mpr ⟨⟨?_, ?_⟩, hproper⟩⟩
      · show c.toNat = _
        rw [List.length_take]
        omega
      · exact fun h0 => hmem (List.contains_iff_mem.mpr h0)

/-! ### The data of a chain of blocks (R106) -/

/-- What stands between a block and the next: an implied zero, unless the block is full (R106). -/
def impliedZero (b : Block) : Bytes := if b.code = 0xFF#8 then [] else [0#8]

theorem joinBlocks_cons (b : Block) {bs : List Block} (h : bs ≠ []) :
    joinBlocks (b :: bs) = b.data ++ impliedZero b ++ joinBlocks bs := by
  match bs, h with
  | _ :: _, _ => rfl

theorem length_joinBlocks_le (bs : List Block) : (joinBlocks bs).length ≤ (bodyOf bs).length := by
  induction bs with
  | nil => exact Nat.le_refl 0
  | cons b bs ih =>
    by_cases hbs : bs = []
    · subst hbs; simp [joinBlocks]
    · have hz : (impliedZero b).length ≤ 1 := by unfold impliedZero; split <;> simp
      simp only [joinBlocks_cons b hbs, bodyOf_cons, List.length_append, List.length_cons]
      omega

/-! ### DECODE_BUF and DECODE_IN_PLACE (R106, R109) -/

theorem decodedBody_of_some {e : Bytes} {bs : List Block} (h : blocks? e = some bs) :
    decodedBody e = .ok (joinBlocks bs) := by
  rw [decodedBody, h]

theorem decodedBody_of_none {e : Bytes} (h : blocks? e = none) : decodedBody e = .raise .framingDecodeError := by
  rw [decodedBody, h]

theorem exec_decodeBuf_of_some {e : Bytes} {bs : List Block} (h : blocks? e = some bs) (s : State) :
    exec (.decodeBuf e) s = .next (s.finish (.bytes (joinBlocks bs))) := by
  show deliver .bytes (decodedBody e) s = _
  rw [decodedBody_of_some h, deliver_ok]

theorem exec_decodeBuf_of_none {e : Bytes} (h : blocks? e = none) (s : State) :
    exec (.decodeBuf e) s = .next (s.finish (.error .framingDecodeError)) := by
  show deliver .bytes (decodedBody e) s = _
  rw [decodedBody_of_none h]
  rfl

/-- A next state with a result answered is an answer of that result. -/
theorem result_of_next_eq {s t : State} {r : Result}
    (h : (Host.Outcome.next t : Host.Outcome State Fault Refusal) = .next { s with result := r }) : t.result = r :=
  congrArg State.result (Host.Outcome.next.inj h)

theorem blocks?_of_exec_decodeBuf {e d : Bytes} {s : State}
    (h : exec (.decodeBuf e) s = .next { s with result := .bytes d }) :
    ∃ bs, blocks? e = some bs ∧ joinBlocks bs = d := by
  cases hb : blocks? e with
  | some bs =>
    rw [exec_decodeBuf_of_some hb] at h
    exact ⟨bs, rfl, Result.bytes.inj (result_of_next_eq h)⟩
  | none =>
    rw [exec_decodeBuf_of_none hb] at h
    cases result_of_next_eq h

theorem blocks?_of_exec_decodeBuf_error {e : Bytes} {s : State} {err : Err}
    (h : exec (.decodeBuf e) s = .next { s with result := .error err }) : blocks? e = none := by
  cases hb : blocks? e with
  | some bs =>
    rw [exec_decodeBuf_of_some hb] at h
    cases result_of_next_eq h
  | none => rfl

/-- Settles O50: a body is cut block by block, and its data joined block by block. -/
theorem decodeBufBlocks : Obligations.DecodeBufBlocks := by
  intro s
  refine ⟨exec_decodeBuf_of_some blocks?_nil s, ?block,
    fun c rest h => exec_decodeBuf_of_none (blocks?_cons_eq_none h) s, ?errorInRest⟩
  case block =>
    intro c data rest d hc hdata hrest
    obtain ⟨bs, hbs, rfl⟩ := blocks?_of_exec_decodeBuf hrest
    have hcut : blocks? (c :: data ++ rest) = some (⟨c, data⟩ :: bs) :=
      (blocks?_block_append (b := ⟨c, data⟩) ⟨hc, hdata⟩ rest).trans (by rw [hbs, Option.map_some])
    rw [exec_decodeBuf_of_some hcut]
    obtain ⟨rfl, -⟩ := eq_bodyOf_of_blocks? hbs
    by_cases hne : bs = []
    · subst hne
      simp [joinBlocks, State.finish]
    · have hbody : bodyOf bs ≠ [] := by
        obtain ⟨b, bs', rfl⟩ := List.exists_cons_of_ne_nil hne
        simp
      simp only [joinBlocks_cons _ hne, impliedZero, hbody, ne_eq, not_false_eq_true, and_true, ite_not, State.finish]
  case errorInRest =>
    intro c data rest hc hrest
    refine exec_decodeBuf_of_none ?_ s
    by_cases hdata : (0#8 : Byte) ∈ data
    · refine blocks?_cons_eq_none (.inr (.inr ?_))
      show (0#8 : Byte) ∈ (data ++ rest).take (c.toNat - 1)
      rw [hc, Nat.add_sub_cancel, List.take_left]
      exact hdata
    · rw [List.cons_append, blocks?_block_append (b := ⟨c, data⟩) ⟨hc, hdata⟩,
        blocks?_of_exec_decodeBuf_error hrest, Option.map_none]

theorem exec_decodeInPlace_of_some {e : Bytes} {bs : List Block} (h : blocks? e = some bs) (s : State) :
    exec (.decodeInPlace e) s = .next (s.finish (.inPlace (some (joinBlocks bs)) (splice e 0 (joinBlocks bs)))) := by
  show execDecodeInPlace e s = _
  rw [execDecodeInPlace, decodedBody_of_some h]

theorem exec_decodeInPlace_of_none {e : Bytes} (h : blocks? e = none) (s : State) : exec (.decodeInPlace e) s =
    .next (s.drawFree.finish (.inPlace none (freeBuffer s.freeDraws e.length))) := by
  show execDecodeInPlace e s = _
  rw [execDecodeInPlace, decodedBody_of_none h]

/-- Settles O51: both operations cut the same body, and data is never longer than the body it comes from. -/
theorem inPlaceAgreesWithBulk : Obligations.InPlaceAgreesWithBulk := by
  intro e s
  cases hb : blocks? e with
  | some bs =>
    have hok := decodedBody_of_some hb
    obtain ⟨heq, -⟩ := eq_bodyOf_of_blocks? hb
    refine ⟨fun d hd => ?_, fun hno => absurd hok (hno _)⟩
    obtain rfl : joinBlocks bs = d := Ret.ok.inj (hok.symm.trans hd)
    refine ⟨exec_decodeBuf_of_some hb s, heq ▸ length_joinBlocks_le bs, ?_⟩
    rw [exec_decodeInPlace_of_some hb, splice, List.take_zero, List.nil_append, Nat.zero_add]
    rfl
  | none =>
    have hraise := decodedBody_of_none hb
    refine ⟨fun d hd => (by cases hraise.symm.trans hd), fun _ => ⟨exec_decodeBuf_of_none hb s, ?_⟩⟩
    exact ⟨freeBuffer s.freeDraws e.length, by simp [freeBuffer], exec_decodeInPlace_of_none hb s⟩

/-! ### ENCODE_FRAME as a chain of blocks (R102) -/

/-- The block of some data bytes. -/
def blockOf (data : Bytes) : Block := ⟨BitVec.ofNat 8 (data.length + 1), data⟩

/-- The blocks that the loop of R102 closes, `block` the data bytes of the open one. -/
def encodedBlocks (block : Bytes) : Bytes → List Block
  | [] => [blockOf block]
  | x :: rest =>
    if x = 0#8 then blockOf block :: encodedBlocks [] rest
    else if block.length + 1 = 254 ∧ rest ≠ [] then blockOf (block ++ [x]) :: encodedBlocks [] rest
    else encodedBlocks (block ++ [x]) rest

theorem encodeLoop_eq_bodyOf (block p : Bytes) : encodeLoop block p = bodyOf (encodedBlocks block p) := by
  induction p generalizing block with
  | nil => simp [encodeLoop, encodedBlocks, closeBlock, blockOf]
  | cons x rest ih =>
    simp only [encodeLoop, encodedBlocks]
    split
    · simp [ih, closeBlock, blockOf]
    split
    · simp [ih, closeBlock, blockOf]
    · exact ih _

theorem encodeBody_eq_bodyOf (p : Bytes) : encodeBody p = bodyOf (encodedBlocks [] p) := encodeLoop_eq_bodyOf [] p

theorem encodedBlocks_ne_nil (block p : Bytes) : encodedBlocks block p ≠ [] := by
  induction p generalizing block with
  | nil => simp [encodedBlocks]
  | cons x rest ih =>
    simp only [encodedBlocks]
    split
    · exact List.cons_ne_nil _ _
    split
    · exact List.cons_ne_nil _ _
    · exact ih _

/-- What the loop of R102 keeps of its open block: no zero in it, and room for another byte while any is left. -/
structure OpenBlock (block rest : Bytes) : Prop where
  nonzero : (0#8 : Byte) ∉ block
  length_le : block.length ≤ 254
  room : rest ≠ [] → block.length ≤ 253

theorem openBlock_nil (rest : Bytes) : OpenBlock [] rest := ⟨by simp, by simp, by simp⟩

theorem OpenBlock.concat {block rest : Bytes} {x : Byte} (h : OpenBlock block (x :: rest)) (hx : x ≠ 0#8)
    (hfull : ¬ (block.length + 1 = 254 ∧ rest ≠ [])) : OpenBlock (block ++ [x]) rest := by
  have hroom := h.room (List.cons_ne_nil _ _)
  refine ⟨by simp [h.nonzero, hx.symm], by simp; omega, fun hne => ?_⟩
  have hlt : block.length + 1 ≠ 254 := fun heq => hfull ⟨heq, hne⟩
  simp
  omega

theorem toNat_blockOf_code {data : Bytes} (h : data.length ≤ 254) : (blockOf data).code.toNat = data.length + 1 := by
  simp only [blockOf, BitVec.toNat_ofNat]
  omega

theorem blockOf_proper {data : Bytes} (h0 : (0#8 : Byte) ∉ data) (h : data.length ≤ 254) : (blockOf data).proper :=
  ⟨toNat_blockOf_code h, h0⟩

/-- A block is full, its code byte `0xFF`, exactly with 254 data bytes (R102). -/
theorem blockOf_code_eq_ff_iff {data : Bytes} (h : data.length ≤ 254) :
    (blockOf data).code = 0xFF#8 ↔ data.length = 254 := by
  rw [← BitVec.toNat_inj, toNat_blockOf_code h]
  simp

theorem impliedZero_blockOf {data : Bytes} (h : data.length ≤ 253) : impliedZero (blockOf data) = [0#8] :=
  if_neg (fun hff => by have := (blockOf_code_eq_ff_iff (by omega)).mp hff; omega)

theorem impliedZero_blockOf_full {data : Bytes} (h : data.length = 254) : impliedZero (blockOf data) = [] :=
  if_pos ((blockOf_code_eq_ff_iff (by omega)).mpr h)

/-- The block that 254 data bytes close, more of the input following. -/
theorem OpenBlock.full_proper {block rest : Bytes} {x : Byte} (h : OpenBlock block (x :: rest)) (hx : x ≠ 0#8) :
    (blockOf (block ++ [x])).proper := by
  have hroom := h.room (List.cons_ne_nil _ _)
  exact blockOf_proper (by simp [h.nonzero, hx.symm]) (by simp; omega)

theorem proper_of_mem_encodedBlocks {block p : Bytes} (h : OpenBlock block p) :
    ∀ b ∈ encodedBlocks block p, b.proper := by
  induction p generalizing block with
  | nil => exact List.forall_mem_singleton.mpr (blockOf_proper h.nonzero h.length_le)
  | cons x rest ih =>
    simp only [encodedBlocks]
    split
    · exact List.forall_mem_cons.mpr ⟨blockOf_proper h.nonzero h.length_le, ih (openBlock_nil _)⟩
    rename_i hx
    split
    · exact List.forall_mem_cons.mpr ⟨h.full_proper hx, ih (openBlock_nil _)⟩
    · exact ih (h.concat hx ‹_›)

/-- The data of the blocks is the input: the implied zeros are the zeros that closed a block (R114). -/
theorem joinBlocks_encodedBlocks {block p : Bytes} (h : OpenBlock block p) :
    joinBlocks (encodedBlocks block p) = block ++ p := by
  induction p generalizing block with
  | nil => simp [encodedBlocks, joinBlocks, blockOf]
  | cons x rest ih =>
    have hroom := h.room (List.cons_ne_nil _ _)
    simp only [encodedBlocks]
    split
    · rename_i hx
      rw [joinBlocks_cons _ (encodedBlocks_ne_nil _ _), impliedZero_blockOf hroom, ih (openBlock_nil _), hx]
      simp [blockOf]
    rename_i hx
    split
    · rename_i hfull
      rw [joinBlocks_cons _ (encodedBlocks_ne_nil _ _), impliedZero_blockOf_full (by simpa using hfull.1),
        ih (openBlock_nil _)]
      simp [blockOf]
    · rw [ih (h.concat hx ‹_›), List.append_assoc, List.singleton_append]

theorem blocks?_encodeBody (p : Bytes) : blocks? (encodeBody p) = some (encodedBlocks [] p) := by
  rw [encodeBody_eq_bodyOf, blocks?_bodyOf (proper_of_mem_encodedBlocks (openBlock_nil p))]

theorem bodyWellFormed_encodeBody (p : Bytes) : bodyWellFormed (encodeBody p) = true := by
  obtain ⟨b, bs, hbs⟩ := List.exists_cons_of_ne_nil (encodedBlocks_ne_nil [] p)
  rw [bodyWellFormed, blocks?_encodeBody, encodeBody_eq_bodyOf, hbs]
  rfl

theorem zero_notMem_encodeBody (p : Bytes) : (0#8 : Byte) ∉ encodeBody p := by
  rw [encodeBody_eq_bodyOf]
  exact zero_notMem_bodyOf (proper_of_mem_encodedBlocks (openBlock_nil p))

/-- Settles O47: the body that ENCODE_FRAME writes is the chain of blocks whose data is the input. -/
theorem bulkRoundTrip : Obligations.BulkRoundTrip := by
  intro p s
  refine ⟨encodeBody p, rfl, rfl, zero_notMem_encodeBody p, bodyWellFormed_encodeBody p, ?_⟩
  rw [exec_decodeBuf_of_some (blocks?_encodeBody p), joinBlocks_encodedBlocks (openBlock_nil p)]
  rfl

/-! ### How long a frame is (R103 to R105) -/

/-- The length of a body: one byte over the data, and at most one more for each 254 bytes before the last. -/
theorem length_bodyOf_encodedBlocks_le {block p : Bytes} (h : OpenBlock block p) :
    (bodyOf (encodedBlocks block p)).length ≤ block.length + p.length + 1 + (block.length + p.length - 1) / 254 := by
  induction p generalizing block with
  | nil => simp [encodedBlocks, blockOf]
  | cons x rest ih =>
    simp only [encodedBlocks]
    split
    · have hrest := ih (openBlock_nil _)
      simp only [bodyOf_cons, blockOf, List.length_cons, List.length_append, List.length_nil] at hrest ⊢
      omega
    rename_i hx
    split
    · rename_i hfull
      have hpos : 0 < rest.length := List.length_pos_iff.mpr hfull.2
      have hrest := ih (openBlock_nil _)
      simp only [bodyOf_cons, blockOf, List.length_cons, List.length_append, List.length_nil] at hrest ⊢
      omega
    · have hrest := ih (h.concat hx ‹_›)
      simp only [List.length_cons, List.length_append, List.length_nil] at hrest ⊢
      omega

/-- Without a zero the bound is met: only full blocks are closed. -/
theorem length_bodyOf_encodedBlocks_of_nonzero {block p : Bytes} (h : OpenBlock block p) (h0 : (0#8 : Byte) ∉ p) :
    (bodyOf (encodedBlocks block p)).length = block.length + p.length + 1 + (block.length + p.length - 1) / 254 := by
  induction p generalizing block with
  | nil =>
    have hle := h.length_le
    simp only [encodedBlocks, blockOf, bodyOf_cons, bodyOf_nil, List.length_cons, List.append_nil, List.length_nil]
    omega
  | cons x rest ih =>
    obtain ⟨hx, hrest0⟩ := not_or.mp (fun hor => h0 (List.mem_cons.mpr hor))
    simp only [encodedBlocks, if_neg (Ne.symm hx)]
    split
    · rename_i hfull
      have hpos : 0 < rest.length := List.length_pos_iff.mpr hfull.2
      have hrest := ih (openBlock_nil _) hrest0
      simp only [bodyOf_cons, blockOf, List.length_cons, List.length_append, List.length_nil] at hrest ⊢
      omega
    · have hrest := ih (h.concat (Ne.symm hx) ‹_›) hrest0
      simp only [List.length_cons, List.length_append, List.length_nil] at hrest ⊢
      omega

theorem length_encodedFrame (p : Bytes) : (encodedFrame p).length = (bodyOf (encodedBlocks [] p)).length + 1 := by
  rw [encodedFrame, encodeBody_eq_bodyOf, List.length_append, List.length_singleton]

/-- MAX_ENCODED_LEN in the form of the two bounds above. -/
theorem maxEncodedLength_eq (n : Nat) : maxEncodedLength n = n + 1 + (n - 1) / 254 + 1 := by
  unfold maxEncodedLength
  split <;> omega

/-- Settles O48. -/
theorem encodedLengthBound : Obligations.EncodedLengthBound := by
  intro p
  have hle := length_bodyOf_encodedBlocks_le (openBlock_nil p)
  rw [length_encodedFrame, maxEncodedLength_eq]
  rw [List.length_nil, Nat.zero_add] at hle
  refine ⟨Nat.succ_le_succ hle, fun h0 => ?_⟩
  rw [length_bodyOf_encodedBlocks_of_nonzero (openBlock_nil p) h0, List.length_nil, Nat.zero_add]

/-! ### Strings without a long run (R82, R103) -/

/-- No 254 bytes in a row are all non-zero (R82). -/
def NoLongRun (p : Bytes) : Prop := ∀ i, i + 254 ≤ p.length → ∃ j, j < 254 ∧ byteAt p (i + j) = 0

theorem NoLongRun.of_append {a b : Bytes} (h : NoLongRun (a ++ b)) : NoLongRun b := by
  intro i hi
  obtain ⟨j, hj, h0⟩ := h (a.length + i) (by rw [List.length_append]; omega)
  exact ⟨j, hj, by rw [← h0, Nat.add_assoc, byteAt_append_length_add]⟩

theorem byteAt_mem {p : Bytes} {i : Nat} (h : i < p.length) : byteAt p i ∈ p := by
  rw [byteAt, List.getD_eq_getElem _ _ h]
  exact List.getElem_mem h

theorem byteAt_append_of_lt {a : Bytes} (b : Bytes) {i : Nat} (h : i < a.length) : byteAt (a ++ b) i = byteAt a i :=
  List.getD_append _ _ _ _ h

/-- Non-zero bytes at the front of such a string are fewer than 254. -/
theorem NoLongRun.length_lt {a b : Bytes} (h : NoLongRun (a ++ b)) (h0 : (0#8 : Byte) ∉ a) : a.length < 254 := by
  by_contra hlen
  obtain ⟨j, hj, hz⟩ := h 0 (by rw [List.length_append]; omega)
  rw [Nat.zero_add, byteAt_append_of_lt b (by omega)] at hz
  have hmem : byteAt a j ∈ a := byteAt_mem (by omega)
  rw [hz] at hmem
  exact h0 hmem

/-- Every block but the last is closed by a zero, and none is full. -/
theorem encodedBlocks_of_noLongRun {block p : Bytes} (h : OpenBlock block p) (hrun : NoLongRun (block ++ p)) :
    (bodyOf (encodedBlocks block p)).length = block.length + p.length + 1 ∧
      ∀ b ∈ encodedBlocks block p, b.code ≠ 0xFF#8 := by
  have hblock := hrun.length_lt h.nonzero
  have hcode : (blockOf block).code ≠ 0xFF#8 := fun hff =>
    absurd ((blockOf_code_eq_ff_iff h.length_le).mp hff) (Nat.ne_of_lt hblock)
  induction p generalizing block with
  | nil => exact ⟨by simp [encodedBlocks, blockOf], List.forall_mem_singleton.mpr hcode⟩
  | cons x rest ih =>
    have hassoc : block ++ x :: rest = (block ++ [x]) ++ rest := by simp
    rw [hassoc] at hrun
    simp only [encodedBlocks]
    split
    · have hrest : NoLongRun ([] ++ rest) := hrun.of_append
      obtain ⟨hlen, hff⟩ := ih (openBlock_nil _) hrest (by simp) (by simp [blockOf])
      refine ⟨?_, List.forall_mem_cons.mpr ⟨hcode, hff⟩⟩
      simp only [bodyOf_cons, blockOf, List.length_cons, List.length_append, List.length_nil] at hlen ⊢
      omega
    rename_i hx
    have hconcat : (0#8 : Byte) ∉ block ++ [x] := by simp [h.nonzero, Ne.symm hx]
    have hlt := hrun.length_lt hconcat
    rw [List.length_append, List.length_singleton] at hlt
    have hopen := h.concat hx (fun hfull => by omega)
    rw [if_neg (fun hfull => by omega)]
    obtain ⟨hlen, hff⟩ := ih hopen hrun (by simpa using hlt) (fun hff => by
      have := (blockOf_code_eq_ff_iff hopen.length_le).mp hff
      rw [List.length_append, List.length_singleton] at this
      omega)
    refine ⟨?_, hff⟩
    simp only [List.length_cons, List.length_append, List.length_nil] at hlen ⊢
    omega

/-- Settles O49. -/
theorem shortRunsCostTwoBytes : Obligations.ShortRunsCostTwoBytes := by
  intro p hrun
  obtain ⟨hlen, hff⟩ := encodedBlocks_of_noLongRun (openBlock_nil p) hrun
  refine ⟨?_, encodedBlocks [] p, blocks?_encodeBody p, hff⟩
  rw [length_encodedFrame, hlen, List.length_nil, Nat.zero_add]

end Sys2Proof.Machine
end

section
/-! PROOFS. The online de-framer UNSTUFF over a frame body (spec/40_framing.md R111, R112, R115). -/

namespace Sys2Proof.Machine

/-! ### One byte (R111, R112) -/

/-- The state after a code byte is loaded: the countdown, and under FF_BLOCK_EXCEPTION its flag. -/
def loadCode (b : Byte) (s : State) : State :=
  if s.cfg.ffBlockException then (s.setFrameOffset b).setPrevCodeFf (isFfCode b) else s.setFrameOffset b

/-- What a code byte hands on: an implied zero, or under FF_BLOCK_EXCEPTION nothing after a full block. -/
def codeByteResult (s : State) : Option Byte := if s.cfg.ffBlockException && s.prevCodeFf then none else some 0#8

theorem unstuff_of_expired (b : Byte) {s : State} (h : s.frameOffset.toNat ≤ 1) :
    unstuff b s = (loadCode b s, codeByteResult s) := by
  rcases unstuff_cases b s with ⟨hlt, _⟩ | ⟨_, hc, hu⟩ | ⟨_, hc, hp, hu⟩ | ⟨_, hc, hp, hu⟩
  · omega
  · rw [hu]; simp [loadCode, codeByteResult, hc]
  · rw [hu]; simp [loadCode, codeByteResult, hc, hp]
  · rw [hu]; simp [loadCode, codeByteResult, hc, hp]

theorem unstuff_of_counting (b : Byte) {s : State} (h : 1 < s.frameOffset.toNat) :
    unstuff b s = (s.setFrameOffset (s.frameOffset - 1), some b) := by
  rcases unstuff_cases b s with ⟨_, hu⟩ | ⟨hle, _⟩ | ⟨hle, _⟩ | ⟨hle, _⟩
  · exact hu
  all_goals omega

@[simp] theorem loadCode_cfg (b : Byte) (s : State) : (loadCode b s).cfg = s.cfg := by
  unfold loadCode; split <;> rfl

@[simp] theorem loadCode_frameOffset (b : Byte) (s : State) : (loadCode b s).frameOffset = b := by
  unfold loadCode; split <;> rfl

/-- A countdown above 1 stays a number after one byte less. -/
theorem toNat_sub_one {v : BitVec 8} (h : 1 < v.toNat) : (v - 1).toNat = v.toNat - 1 := by
  have hv := v.isLt
  have h1 : (1 : BitVec 8).toNat = 1 := rfl
  rw [BitVec.toNat_sub, h1]
  omega

/-! ### A block, and a body (R115) -/

/-- The data bytes of a block pass through while the countdown runs, and leave it expired. -/
theorem onlineBytes_data {data : Bytes} {s : State} (rest : Bytes) (h : s.frameOffset.toNat = data.length + 1) :
    onlineBytes s (data ++ rest) = data.map some ++ onlineBytes (s.setFrameOffset 1) rest := by
  induction data generalizing s with
  | nil =>
    have h1 : s.frameOffset = 1 := BitVec.eq_of_toNat_eq h
    have hs : s.setFrameOffset 1 = s := by rw [← h1]; rfl
    rw [hs]
    rfl
  | cons x data ih =>
    rw [List.length_cons] at h
    have hlt : 1 < s.frameOffset.toNat := by omega
    have hcount : ((s.setFrameOffset (s.frameOffset - 1)).frameOffset).toNat = data.length + 1 := by
      rw [State.setFrameOffset_frameOffset, toNat_sub_one hlt]
      omega
    rw [List.cons_append, onlineBytes, unstuff_of_counting x hlt, ih hcount]
    rfl

/-- A block whose code byte meets an expired countdown: its own result, and its data. -/
theorem onlineBytes_block {b : Block} (hb : b.proper) {s : State} (h : s.frameOffset.toNat ≤ 1) (rest : Bytes) :
    onlineBytes s (b.code :: (b.data ++ rest)) =
      codeByteResult s :: (b.data.map some ++ onlineBytes ((loadCode b.code s).setFrameOffset 1) rest) := by
  rw [onlineBytes, unstuff_of_expired b.code h, onlineBytes_data rest (by rw [loadCode_frameOffset]; exact hb.1)]

/-- After a block the next code byte hands on what stands between the two in DECODE_BUF, when full blocks are told apart
or do not occur (R115). -/
theorem toList_codeByteResult_after {b : Block} {s : State}
    (h : s.cfg.ffBlockException = true ∨ b.code ≠ 0xFF#8) :
    (codeByteResult ((loadCode b.code s).setFrameOffset 1)).toList = impliedZero b := by
  cases hc : s.cfg.ffBlockException with
  | true =>
    by_cases hff : b.code = 0xFF#8 <;> simp [codeByteResult, loadCode, hc, isFfCode, impliedZero, hff]
  | false =>
    have hff := h.resolve_left (by simp [hc])
    simp [codeByteResult, loadCode, hc, impliedZero, hff]

theorem noFullInnerBlock_cons (b : Block) {bs : List Block} (h : bs ≠ []) :
    noFullInnerBlock (b :: bs) = true ↔ b.code ≠ 0xFF#8 ∧ noFullInnerBlock bs = true := by
  obtain ⟨c, rest, rfl⟩ := List.exists_cons_of_ne_nil h
  simp [noFullInnerBlock]

/-- The bytes handed on over a body, the first result put first (R115). -/
theorem filterMap_onlineBytes_bodyOf {bs : List Block} (hbs : bs ≠ []) (hproper : ∀ b ∈ bs, b.proper) {s : State}
    (h : s.frameOffset.toNat ≤ 1) (hff : s.cfg.ffBlockException = true ∨ noFullInnerBlock bs = true) :
    ∃ tail, onlineBytes s (bodyOf bs) = codeByteResult s :: tail ∧ tail.filterMap id = joinBlocks bs := by
  induction bs generalizing s with
  | nil => exact absurd rfl hbs
  | cons b bs ih =>
    obtain ⟨hb, hrest⟩ := List.forall_mem_cons.mp hproper
    refine ⟨_, onlineBytes_block hb h (bodyOf bs), ?_⟩
    by_cases hne : bs = []
    · subst hne
      simp [onlineBytes, joinBlocks, List.filterMap_map]
    · have hb' : s.cfg.ffBlockException = true ∨ b.code ≠ 0xFF#8 :=
        hff.imp id fun h => ((noFullInnerBlock_cons b hne).mp h).1
      have hrest' : s.cfg.ffBlockException = true ∨ noFullInnerBlock bs = true :=
        hff.imp id fun h => ((noFullInnerBlock_cons b hne).mp h).2
      obtain ⟨tail, heq, htail⟩ :=
        ih hne hrest (s := (loadCode b.code s).setFrameOffset 1) (by simp) (by simpa using hrest')
      rw [heq, joinBlocks_cons b hne, ← toList_codeByteResult_after hb', ← htail]
      cases codeByteResult ((loadCode b.code s).setFrameOffset 1) <;> simp [List.filterMap_map]

/-- Settles O52. -/
theorem onlineAgreesWithBulk : Obligations.OnlineAgreesWithBulk := by
  intro e d bs s he hcut hfo _ hff hdec
  obtain ⟨bs', hcut', rfl⟩ := blocks?_of_exec_decodeBuf hdec
  obtain rfl : bs = bs' := Option.some.inj (hcut.symm.trans hcut')
  obtain ⟨rfl, hproper⟩ := eq_bodyOf_of_blocks? hcut
  have hne : bs ≠ [] := fun hnil => he (by rw [hnil]; rfl)
  obtain ⟨tail, heq, htail⟩ := filterMap_onlineBytes_bodyOf hne hproper (s := s) (by rw [hfo]; decide) hff
  rw [heq, List.drop_one, List.tail_cons, htail]

end Sys2Proof.Machine
end

section
/-! PROOFS. The CRC (spec/42_crc_validator.md R160 to R162, R174): chaining, check values, and that no flipped bit of
the data leaves it as it was. -/

namespace Sys2Proof.Machine

theorem exec_crc16 (p : Bytes) (c0 : Option Word16) (s : State) :
    exec (.crc16 p c0) s = .next (s.finish (.number (crc16 (c0.getD crcInit) p).toNat)) := rfl

/-! ### Chaining and check values (R161, R162) -/

theorem crc16_append (c : Word16) (a b : Bytes) : crc16 c (a ++ b) = crc16 (crc16 c a) b := List.foldl_append

/-- Settles O42: the register after the first string is the start of the second. -/
theorem crcChains : Obligations.CrcChains := by
  intro a b c0 s
  refine ⟨(crc16 (c0.getD crcInit) a).toNat, (crc16 (c0.getD crcInit) (a ++ b)).toNat, exec_crc16 a c0 s,
    BitVec.isLt _, ?_, exec_crc16 (a ++ b) c0 s, rfl⟩
  rw [exec_crc16, BitVec.ofNat_toNat, BitVec.setWidth_eq, Option.getD_some, crc16_append]
  rfl

/-- Settles O43, by evaluating the CRC on the eight strings. -/
theorem crcCheckValues : Obligations.CrcCheckValues := by
  intro s r hr
  suffices h : (crc16 crcInit r.1).toNat = r.2 by
    rw [exec_crc16, Option.getD_none, h]
    rfl
  revert r
  decide +kernel

/-! ### No two registers and no two bytes give the same register (R161)

One shift can be undone: the polynomial has its lowest bit set, so that bit of the result says which bit was shifted
out. -/

theorem crcShift_eq_xor (c : Word16) : crcShift c = (c <<< 1) ^^^ (if c.getLsbD 15 then crcPoly else 0#16) := by
  unfold crcShift
  split
  · rfl
  · rw [BitVec.xor_zero]

theorem getLsbD_zero_crcShift (c : Word16) : (crcShift c).getLsbD 0 = c.getLsbD 15 := by
  have hpoly : crcPoly.getLsbD 0 = true := rfl
  rw [crcShift_eq_xor, BitVec.getLsbD_xor, BitVec.getLsbD_shiftLeft]
  cases c.getLsbD 15 <;> simp [hpoly]

theorem getLsbD_succ_crcShift (c : Word16) {i : Nat} (hi : i < 15) : (crcShift c).getLsbD (i + 1) =
    (c.getLsbD i ^^ (if c.getLsbD 15 then crcPoly else 0#16).getLsbD (i + 1)) := by
  have hi' : i + 1 < 16 := by omega
  rw [crcShift_eq_xor, BitVec.getLsbD_xor, BitVec.getLsbD_shiftLeft]
  simp only [hi', decide_true, Nat.not_lt.mpr (Nat.le_add_left 1 i), decide_false, Bool.not_false, Bool.true_and,
    Nat.add_sub_cancel]

theorem crcShift_injective : Function.Injective crcShift := by
  intro a b h
  have htop : a.getLsbD 15 = b.getLsbD 15 := by rw [← getLsbD_zero_crcShift, h, getLsbD_zero_crcShift]
  refine BitVec.eq_of_getLsbD_eq fun i hi => ?_
  rcases Nat.lt_or_ge i 15 with hlt | hge
  · have hbit := getLsbD_succ_crcShift a hlt
    rw [h, getLsbD_succ_crcShift b hlt, htop] at hbit
    exact (Bool.xor_left_inj.mp hbit).symm
  · obtain rfl : i = 15 := by omega
    exact htop

theorem crcShifts_injective (n : Nat) : Function.Injective (crcShifts n) := by
  induction n with
  | zero => exact fun _ _ h => h
  | succ n ih => exact fun _ _ h => crcShift_injective (ih h)

theorem crcByte_injective_left (b : Byte) : Function.Injective (crcByte · b) := fun _ _ h =>
  (BitVec.xor_left_inj _).mp (crcShifts_injective 8 h)

theorem crcByte_injective_right (c : Word16) : Function.Injective (crcByte c) := by
  intro a b h
  have hx := congrArg BitVec.toNat ((BitVec.xor_right_inj c).mp (crcShifts_injective 8 h))
  have ha := a.isLt
  have hb := b.isLt
  simp only [BitVec.toNat_shiftLeft, BitVec.toNat_setWidth, Nat.shiftLeft_eq] at hx
  exact BitVec.eq_of_toNat_eq (by omega)

theorem crc16_injective_start (p : Bytes) : Function.Injective (crc16 · p) := by
  induction p with
  | nil => exact fun _ _ h => h
  | cons b p ih => exact fun _ _ h => crcByte_injective_left b (ih h)

/-- Strings that differ in one byte have different CRCs. -/
theorem crc16_set_ne (c : Word16) {p : Bytes} {i : Nat} {y : Byte} (hi : i < p.length) (hy : y ≠ byteAt p i) :
    crc16 c (p.set i y) ≠ crc16 c p := by
  induction p generalizing c i with
  | nil => exact absurd hi (Nat.not_lt_zero i)
  | cons b p ih =>
    match i with
    | 0 => exact fun h => hy (crcByte_injective_right c (crc16_injective_start p h))
    | i + 1 => exact ih (crcByte c b) (Nat.lt_of_succ_lt_succ hi) hy

/-! ### What VALIDATE accepts (R165 to R171) -/

theorem validate_eq_none {r : Bool} {p : Bytes} (h : validate r p = none) :
    (viewIdLength p).toNat ≠ 0 ∧ viewWireSize p ≤ p.length ∧ ¬ (r = true ∧ 12 < (viewTypeCode p).toNat) ∧
      viewChecksum p = computedChecksum p := by
  unfold validate at h
  split at h <;> [cases h; skip]
  split at h <;> [cases h; skip]
  split at h <;> [cases h; skip]
  split at h <;> [cases h; skip]
  split at h <;> [cases h; skip]
  split at h <;> [cases h; skip]
  rename_i h0 hw ht hc
  exact ⟨h0, not_lt.mp hw, ht, not_not.mp hc⟩

theorem validate_of_exec_ok {p : Bytes} {s : State} (h : exec (.validate p) s = .next { s with result := .ok }) :
    validate s.cfg.rejectUnknownType p = none := by
  cases hv : validate s.cfg.rejectUnknownType p with
  | none => rfl
  | some e =>
    rw [exec_validate_of_some hv] at h
    cases result_of_next_eq h

/-! ### One flipped bit (R174) -/

/-- A field without the flipped bit is as it was. -/
theorem extractLsb'_flip {b : Byte} {n start len : Nat} (h : n < start ∨ start + len ≤ n) :
    (b ^^^ (1#8 <<< n)).extractLsb' start len = b.extractLsb' start len := by
  refine BitVec.eq_of_getLsbD_eq fun j hj => ?_
  have hbit : (1#8 <<< n).getLsbD (start + j) = false := by
    rw [BitVec.getLsbD_shiftLeft, BitVec.getLsbD_one]
    rcases h with h | h
    · simp [show start + j - n ≠ 0 by omega]
    · simp [show start + j < n by omega]
  rw [BitVec.getLsbD_extractLsb', BitVec.getLsbD_extractLsb', BitVec.getLsbD_xor, hbit, Bool.xor_false]

theorem flip_ne (b : Byte) {n : Nat} (hn : n < 8) : b ^^^ (1#8 <<< n) ≠ b := by
  intro h
  have hbit := congrArg (BitVec.getLsbD · n) h
  simp [hn] at hbit

theorem byteAt_set_same {p : Bytes} {i : Nat} (x : Byte) (h : i < p.length) : byteAt (p.set i x) i = x := by
  simp [byteAt, h]

theorem byteAt_set_other {p : Bytes} {i j : Nat} (x : Byte) (h : i ≠ j) : byteAt (p.set i x) j = byteAt p j := by
  simp [byteAt, h]

@[simp] theorem length_flipBit (p : Bytes) (i n : Nat) : (flipBit p i n).length = p.length := List.length_set

section
variable {p : Bytes} {i n : Nat}

theorem byteAt_flipBit_same (h : i < p.length) : byteAt (flipBit p i n) i = byteAt p i ^^^ (1#8 <<< n) :=
  byteAt_set_same _ h

theorem byteAt_flipBit_other {j : Nat} (h : i ≠ j) : byteAt (flipBit p i n) j = byteAt p j := byteAt_set_other _ h

variable (hi : i < p.length) (hout : outsideLengths i n)
include hi hout

theorem viewIdLength_flipBit : viewIdLength (flipBit p i n) = viewIdLength p := by
  by_cases h : i = 2
  · subst h
    rw [viewIdLength, byteAt_flipBit_same hi]
    exact extractLsb'_flip (.inr (hout.2.2 rfl))
  · rw [viewIdLength, byteAt_flipBit_other h]
    rfl

theorem viewDataLength_flipBit : viewDataLength (flipBit p i n) = viewDataLength p := by
  rw [viewDataLength, byteAt_flipBit_other hout.1]
  by_cases h : i = 1
  · subst h
    rw [byteAt_flipBit_same hi, dataLengthOf, extractLsb'_flip (.inr (hout.2.1 rfl))]
    rfl
  · rw [byteAt_flipBit_other h]
    rfl

theorem checksumIndex_flipBit : checksumIndex (flipBit p i n) = checksumIndex p := by
  rw [checksumIndex, viewIdLength_flipBit hi hout, viewDataLength_flipBit hi hout, checksumIndex]

omit hout in
theorem viewTypeCode_flipBit (h : i = 1 → 6 ≤ n) : viewTypeCode (flipBit p i n) = viewTypeCode p := by
  by_cases h1 : i = 1
  · subst h1
    rw [viewTypeCode, byteAt_flipBit_same hi]
    exact extractLsb'_flip (.inr (h rfl))
  · rw [viewTypeCode, byteAt_flipBit_other h1]
    rfl

variable (hk : i < checksumIndex p)
include hk

theorem viewChecksum_flipBit : viewChecksum (flipBit p i n) = viewChecksum p := by
  rw [viewChecksum, checksumIndex_flipBit hi hout, byteAt_flipBit_other (by omega), byteAt_flipBit_other (by omega)]
  rfl

theorem computedChecksum_flipBit (hn : n < 8) : computedChecksum (flipBit p i n) ≠ computedChecksum p := by
  have htake : i < (p.take (checksumIndex p)).length := by rw [List.length_take]; omega
  have hbyte : byteAt (p.take (checksumIndex p)) i = byteAt p i := by
    rw [← byteAt_append_of_lt (p.drop (checksumIndex p)) htake, List.take_append_drop]
  rw [computedChecksum, computedChecksum, checksumIndex_flipBit hi hout, flipBit, List.take_set]
  exact crc16_set_ne crcInit htake (by rw [hbyte]; exact flip_ne _ hn)

end

/-- Settles O45: the flip leaves every check but the last as it was, and the CRC tells any two bytes apart. -/
theorem checksumSensitivity : Obligations.ChecksumSensitivity := by
  intro p i n s hok hi hn hout htype
  obtain ⟨h0, hw, ht, hc⟩ := validate_eq_none (validate_of_exec_ok hok)
  have hk : i < checksumIndex p := by rw [checksumIndex_eq]; omega
  have hlen : i < p.length := lt_of_lt_of_le (Nat.lt_add_right 2 hk) hw
  refine exec_validate_of_some (validate_of_checksum_ne ?_ ?_ ?_ ?_)
  · rwa [viewIdLength_flipBit hlen hout]
  · rwa [viewWireSize, checksumIndex_flipBit hlen hout, length_flipBit]
  · rintro ⟨hr, h12⟩
    rw [viewTypeCode_flipBit hlen (htype hr)] at h12
    exact ht ⟨hr, h12⟩
  · rw [viewChecksum_flipBit hlen hout hk, hc]
    exact (computedChecksum_flipBit hlen hout hk hn).symm

end Sys2Proof.Machine
end

section
/-! PROOFS. The packet builder (spec/44_packet_builder.md): what each setter writes. -/

namespace Sys2Proof.Machine

/-! ### One field of a header byte written (R221 to R227)

The mask keeps the other fields: the byte written is the header byte of the old fields with one of them replaced. -/

theorem getLsbD_headerByte1 (o i : Bool) (t : BitVec 4) (d : BitVec 2) (j : Nat) :
    (headerByte1 o i t d).getLsbD j = if j < 2 then d.getLsbD j else if j - 2 < 4 then t.getLsbD (j - 2)
      else if j - 2 - 4 < 1 then (BitVec.ofBool i).getLsbD (j - 2 - 4)
      else (BitVec.ofBool o).getLsbD (j - 2 - 4 - 1) := by
  simp only [headerByte1, BitVec.getLsbD_append]

theorem getLsbD_headerByte2 (a : BitVec 3) (r : Bool) (n : BitVec 4) (j : Nat) :
    (headerByte2 a r n).getLsbD j = if j < 4 then n.getLsbD j
      else if j - 4 < 1 then (BitVec.ofBool r).getLsbD (j - 4) else a.getLsbD (j - 4 - 1) := by
  simp only [headerByte2, BitVec.getLsbD_append]

section
variable (b : Byte) (f : Bool) (t n : BitVec 4) (d : BitVec 2) (a : BitVec 3)

theorem mask_offset : (b &&& 0x7F#8) ||| flagBit f 7 =
    headerByte1 f (internalOf b) (typeCodeOf b) (b.extractLsb' 0 2) := by
  refine BitVec.eq_of_getLsbD_eq fun j hj => ?_
  rw [getLsbD_headerByte1]
  interval_cases j <;> simp [flagBit, internalOf, typeCodeOf]

theorem mask_internal : (b &&& 0xBF#8) ||| flagBit f 6 =
    headerByte1 (offsetOf b) f (typeCodeOf b) (b.extractLsb' 0 2) := by
  refine BitVec.eq_of_getLsbD_eq fun j hj => ?_
  rw [getLsbD_headerByte1]
  interval_cases j <;> simp [flagBit, offsetOf, typeCodeOf]

theorem mask_type : (b &&& 0xC3#8) ||| (t.setWidth 8 <<< 2) =
    headerByte1 (offsetOf b) (internalOf b) t (b.extractLsb' 0 2) := by
  refine BitVec.eq_of_getLsbD_eq fun j hj => ?_
  rw [getLsbD_headerByte1]
  interval_cases j <;> simp [offsetOf, internalOf]

theorem mask_dataLength : (b &&& 0xFC#8) ||| d.setWidth 8 =
    headerByte1 (offsetOf b) (internalOf b) (typeCodeOf b) d := by
  refine BitVec.eq_of_getLsbD_eq fun j hj => ?_
  rw [getLsbD_headerByte1]
  interval_cases j <;> simp [offsetOf, internalOf, typeCodeOf]

theorem mask_idLength : (b &&& 0xF0#8) ||| n.setWidth 8 = headerByte2 (acknumOf b) (responseOf b) n := by
  refine BitVec.eq_of_getLsbD_eq fun j hj => ?_
  rw [getLsbD_headerByte2]
  interval_cases j <;> simp [acknumOf, responseOf]

theorem mask_response : (b &&& 0xEF#8) ||| flagBit f 4 = headerByte2 (acknumOf b) f (idLengthOf b) := by
  refine BitVec.eq_of_getLsbD_eq fun j hj => ?_
  rw [getLsbD_headerByte2]
  interval_cases j <;> simp [flagBit, acknumOf, idLengthOf]

theorem mask_acknum : (b &&& 0x1F#8) ||| (a.setWidth 8 <<< 5) = headerByte2 a (responseOf b) (idLengthOf b) := by
  refine BitVec.eq_of_getLsbD_eq fun j hj => ?_
  rw [getLsbD_headerByte2]
  interval_cases j <;> simp [responseOf, idLengthOf]

end

/-! ### What each setter writes (R221 to R230) -/

/-- A number that fits a field, written as a byte. -/
theorem ofNat_setWidth_of_lt {w n : Nat} (h : n < 2 ^ w) (hw : w ≤ 8) :
    BitVec.ofNat 8 n = (BitVec.ofNat w n).setWidth 8 := by
  apply BitVec.eq_of_toNat_eq
  have hle : 2 ^ w ≤ 2 ^ 8 := Nat.pow_le_pow_right (by decide) hw
  rw [BitVec.toNat_setWidth, BitVec.toNat_ofNat, BitVec.toNat_ofNat, Nat.mod_eq_of_lt h]

section
variable {p : Bytes}

theorem setDataLength_of_lt {v : Nat} (h : 2 ≤ p.length) (hv : v < 1024) : setDataLength p v =
    .ok ((p.set 0 (BitVec.ofNat 8 v)).set 1
      (headerByte1 (viewOffset p) (viewInternal p) (viewTypeCode p) (BitVec.ofNat 2 (v / 256)))) := by
  rw [setDataLength, needLength_of_le _ h, if_neg (by omega), if_neg (by omega), maskByte,
    ofNat_setWidth_of_lt (n := v / 256) (w := 2) (by omega) (by decide), mask_dataLength,
    byteAt_set_other _ Nat.zero_ne_one]
  rfl

theorem setDataLength_of_gt {v : Nat} (h : 2 ≤ p.length) (hv : 1024 < v) :
    setDataLength p v = .raise .invalidDataLength := by
  rw [setDataLength, needLength_of_le _ h, if_pos hv]

theorem setDataLength_1024 (h : 2 ≤ p.length) : setDataLength p 1024 = .refuse .dataLength1024 := by
  rw [setDataLength, needLength_of_le _ h]
  rfl

theorem setOffset_of_le (f : Bool) (h : 2 ≤ p.length) : setOffset p f =
    .ok (p.set 1 (headerByte1 f (viewInternal p) (viewTypeCode p) ((byteAt p 1).extractLsb' 0 2))) := by
  rw [setOffset, needLength_of_le _ h, maskByte, mask_offset]
  rfl

theorem setInternal_of_le (f : Bool) (h : 2 ≤ p.length) : setInternal p f =
    .ok (p.set 1 (headerByte1 (viewOffset p) f (viewTypeCode p) ((byteAt p 1).extractLsb' 0 2))) := by
  rw [setInternal, needLength_of_le _ h, maskByte, mask_internal]
  rfl

theorem setType_of_le {t : MsgType} (h : 2 ≤ p.length) (ht : msgTypeCode t ≤ 15) : setType p t =
    .ok (p.set 1 (headerByte1 (viewOffset p) (viewInternal p) (BitVec.ofNat 4 (msgTypeCode t))
      ((byteAt p 1).extractLsb' 0 2))) := by
  rw [setType, needLength_of_le _ h, if_neg ht.not_gt, maskByte,
    ofNat_setWidth_of_lt (w := 4) (Nat.lt_succ_of_le ht) (by decide), mask_type]
  rfl

theorem setType_of_gt {t : MsgType} (h : 2 ≤ p.length) (ht : 15 < msgTypeCode t) :
    setType p t = .refuse .typeCodeOutOfRange := by
  rw [setType, needLength_of_le _ h, if_pos ht]

theorem setIdLength_of_le {v : Nat} (h : 3 ≤ p.length) (hpos : 1 ≤ v) (hv : v ≤ 15) : setIdLength p v =
    .ok (p.set 2 (headerByte2 (viewAcknum p) (viewResponse p) (BitVec.ofNat 4 v))) := by
  rw [setIdLength, needLength_of_le _ h, if_neg (by omega), maskByte,
    ofNat_setWidth_of_lt (w := 4) (Nat.lt_succ_of_le hv) (by decide), mask_idLength]
  rfl

theorem setIdLength_out_of_range {v : Nat} (h : 3 ≤ p.length) (hv : v = 0 ∨ 15 < v) :
    setIdLength p v = .raise .invalidMessageIdLength := by
  rw [setIdLength, needLength_of_le _ h, if_pos hv]

theorem setResponse_of_le (f : Bool) (h : 3 ≤ p.length) : setResponse p f =
    .ok (p.set 2 (headerByte2 (viewAcknum p) f (viewIdLength p))) := by
  rw [setResponse, needLength_of_le _ h, maskByte, mask_response]
  rfl

theorem setAcknum_of_le {v : Nat} (h : 3 ≤ p.length) (hv : v ≤ 7) : setAcknum p v =
    .ok (p.set 2 (headerByte2 (BitVec.ofNat 3 v) (viewResponse p) (viewIdLength p))) := by
  rw [setAcknum, needLength_of_le _ h, if_neg hv.not_gt, maskByte,
    ofNat_setWidth_of_lt (w := 3) (Nat.lt_succ_of_le hv) (by decide), mask_acknum]
  rfl

theorem setAcknum_of_gt {v : Nat} (h : 3 ≤ p.length) (hv : 7 < v) : setAcknum p v = .refuse .acknumOutOfRange := by
  rw [setAcknum, needLength_of_le _ h, if_pos hv]

theorem setMsgId_of_identity_none {d : Bytes} (h : identity? d = none) : setMsgId p d = .raise .invalidMessageId := by
  rw [setMsgId, h]

theorem setMsgId_of_identity_some {d e : Bytes} (h : identity? d = some e) : setMsgId p d =
    needLength p 3 (if d.length ≠ (viewIdLength p).toNat then .refuse .lengthFieldMismatch
      else needLength p (3 + d.length) (.ok (splice p 3 d))) := by
  rw [setMsgId, h]

theorem setMsgId_of_le {d e : Bytes} (hid : identity? d = some e) (hlen : d.length = (viewIdLength p).toNat)
    (h : 3 + d.length ≤ p.length) : setMsgId p d = .ok (splice p 3 d) := by
  rw [setMsgId_of_identity_some hid, needLength_of_le _ (by omega), if_neg (not_not_intro hlen), needLength_of_le _ h]

theorem setPayload_of_mismatch {d : Bytes} (h3 : 3 ≤ p.length)
    (h : (viewIdLength p).toNat = 0 ∨ d.length ≠ (viewDataLength p).toNat) :
    setPayload p d = .refuse .lengthFieldMismatch := by
  rw [setPayload, needLength_of_le _ h3, if_pos h]

theorem setPayload_of_match {d : Bytes} (h3 : 3 ≤ p.length) (h0 : (viewIdLength p).toNat ≠ 0)
    (hlen : d.length = (viewDataLength p).toNat) : setPayload p d =
    needLength p (3 + (viewIdLength p).toNat + d.length) (.ok (splice p (3 + (viewIdLength p).toNat) d)) := by
  rw [setPayload, needLength_of_le _ h3, if_neg (not_or.mpr ⟨h0, not_not_intro hlen⟩)]

theorem setChecksum_of_le (c : Word16) (h : viewWireSize p ≤ p.length) : setChecksum p c =
    .ok ((p.set (checksumIndex p) (lowByte c)).set (checksumIndex p + 1) (highByte c)) := by
  have h3 : 3 ≤ p.length := le_trans (by rw [viewWireSize, checksumIndex]; omega) h
  rw [setChecksum, needLength_of_le _ h3, needLength_of_le _ h]

end

/-! ### The setters as operations (R220 to R230) -/

section
variable (p : Bytes) (s : State)

theorem exec_newUnchecked : exec (.newUnchecked p) s = .next (s.finish (.view none p)) := rfl
theorem exec_setDataLength (v : Word16) : exec (.setDataLength p v) s = deliverView p (setDataLength p v.toNat) s := rfl
theorem exec_setOffset (f : Bool) : exec (.setOffset p f) s = deliverView p (setOffset p f) s := rfl
theorem exec_setType (t : MsgType) : exec (.setType p t) s = deliverView p (setType p t) s := rfl
theorem exec_setInternal (f : Bool) : exec (.setInternal p f) s = deliverView p (setInternal p f) s := rfl
theorem exec_setIdLength (v : Byte) : exec (.setIdLength p v) s = deliverView p (setIdLength p v.toNat) s := rfl
theorem exec_setResponse (f : Bool) : exec (.setResponse p f) s = deliverView p (setResponse p f) s := rfl
theorem exec_setAcknum (v : Nat) : exec (.setAcknum p v) s = deliverView p (setAcknum p v) s := rfl
theorem exec_setMsgId (d : Bytes) : exec (.setMsgId p d) s = deliverView p (setMsgId p d) s := rfl
theorem exec_setPayload (d : Bytes) : exec (.setPayload p d) s = deliverView p (setPayload p d) s := rfl
theorem exec_setChecksum (c : Word16) : exec (.setChecksum p c) s = deliverView p (setChecksum p c) s := rfl

variable {p}

theorem deliverView_of_short {n : Nat} (r : Ret Bytes) (h : p.length < n) :
    deliverView p (needLength p n r) s = .refused .viewTooShort := by
  rw [needLength_of_lt _ h, deliverView_refuse]

end

/-- Settles O55: the byte each setter stores is header byte 1 of the old fields with its own replaced. -/
theorem setByteOne : Obligations.SetByteOne := by
  intro p f t s
  have hb := (byteAt p 1).isLt
  refine ⟨fun h => ⟨deliverView_of_short s _ h, deliverView_of_short s _ h, deliverView_of_short s _ h⟩,
    fun h => ⟨⟨_, ?offset, by rw [exec_setOffset, setOffset_of_le f h]; rfl⟩,
      ⟨_, ?internal, by rw [exec_setInternal, setInternal_of_le f h]; rfl⟩,
      fun ht => by rw [exec_setType, setType_of_gt h ht]; rfl,
      fun ht => ⟨_, ?type, by rw [exec_setType, setType_of_le h ht]; rfl⟩⟩⟩
  all_goals
    simp only [toNat_headerByte1, viewOffset, viewInternal, viewTypeCode, toNat_offsetOf, toNat_internalOf,
      toNat_typeCodeOf, toNat_dataLengthHigh, BitVec.toNat_ofNat]
    omega

/-- Settles O56: the byte each setter stores is header byte 2 of the old fields with its own replaced. -/
theorem setByteTwo : Obligations.SetByteTwo := by
  intro p v f a s
  have hb := (byteAt p 2).isLt
  refine ⟨fun h => ⟨deliverView_of_short s _ h, deliverView_of_short s _ h, deliverView_of_short s _ h⟩,
    fun h => ⟨fun hv => by rw [exec_setIdLength, setIdLength_out_of_range h hv]; rfl,
      fun hpos hv => ⟨_, ?idLength, by rw [exec_setIdLength, setIdLength_of_le h hpos hv]; rfl⟩,
      ⟨_, ?response, by rw [exec_setResponse, setResponse_of_le f h]; rfl⟩,
      fun ha => by rw [exec_setAcknum, setAcknum_of_gt h ha]; rfl,
      fun ha => ⟨_, ?acknum, by rw [exec_setAcknum, setAcknum_of_le h ha]; rfl⟩⟩⟩
  all_goals
    simp only [toNat_headerByte2, viewAcknum, viewResponse, viewIdLength, toNat_acknumOf, toNat_responseOf,
      toNat_idLengthOf, BitVec.toNat_ofNat]
    omega

end Sys2Proof.Machine

namespace Sys2Proof

open Machine

/-- Settles O54: the length is split over byte 0 and the two low bits of byte 1. -/
theorem setDataLength : Obligations.SetDataLength := by
  intro p v s
  refine ⟨exec_newUnchecked p s, fun h => deliverView_of_short s _ h,
    fun h => ⟨fun hv => ?_, fun hv => ?_, fun hv => ?_⟩⟩
  · rw [exec_setDataLength, setDataLength_of_gt h hv]; rfl
  · rw [exec_setDataLength, hv, setDataLength_1024 h]; rfl
  · have hset : 1 < (p.set 0 (BitVec.ofNat 8 v.toNat)).length := by rw [List.length_set]; exact h
    refine ⟨_, by rw [exec_setDataLength, setDataLength_of_lt h hv]; rfl, ?_, ?_, ?_, fun i hi => ?_⟩
    · rw [List.length_set, List.length_set]
    · rw [byteAt_set_other _ (by decide), byteAt_set_same _ (by omega), BitVec.toNat_ofNat]
    · have hb := (byteAt p 1).isLt
      rw [byteAt_set_same _ hset, toNat_headerByte1, viewOffset, viewInternal, viewTypeCode, toNat_offsetOf,
        toNat_internalOf, toNat_typeCodeOf, BitVec.toNat_ofNat]
      omega
    · rw [byteAt_set_other _ (by omega), byteAt_set_other _ (by omega)]

end Sys2Proof
end

section
/-! PROOFS. The packet builder (spec/44_packet_builder.md): the id, payload and checksum setters, what the header
setters leave alone, and the recipe PKT (R228 to R232). -/

namespace Sys2Proof.Machine

/-! ### SET_MSG_ID, SET_PAYLOAD and SET_CHECKSUM (R228 to R230) -/

/-- Settles O57, each clause by the equation of its setter. -/
theorem setIdPayloadChecksum : Obligations.SetIdPayloadChecksum := by
  intro p d c s idl dl hidl hdl
  obtain rfl : idl = (viewIdLength p).toNat := hidl.trans (toNat_viewIdLength p).symm
  obtain rfl : dl = (viewDataLength p).toNat := hdl.trans (toNat_viewDataLength p).symm
  have hk : viewWireSize p = 5 + (viewIdLength p).toNat + (viewDataLength p).toNat := by
    rw [viewWireSize, checksumIndex]
    omega
  refine ⟨fun hid => ?_, fun hid => ⟨fun h => ?_, fun h3 hlen => ?_, fun h3 hlen h => ?_, fun hlen h => ?_⟩,
    fun h => ⟨deliverView_of_short s _ h, deliverView_of_short s _ h⟩, fun h3 h => ?_, fun h3 h0 hlen h => ?_,
    fun h0 hlen h => ?_, fun h3 h => ?_, fun h => ⟨lowByte c, highByte c, ?_, ?_⟩⟩
  · rw [exec_setMsgId, setMsgId_of_identity_none hid]; rfl
  · rw [exec_setMsgId, setMsgId_of_identity_some hid, deliverView_of_short s _ h]
  · rw [exec_setMsgId, setMsgId_of_identity_some hid, needLength_of_le _ h3, if_pos hlen]; rfl
  · rw [exec_setMsgId, setMsgId_of_identity_some hid, needLength_of_le _ h3, if_neg (not_not_intro hlen),
      deliverView_of_short s _ (by omega)]
  · rw [exec_setMsgId, setMsgId_of_le hid hlen (by omega), splice, hlen]; rfl
  · rw [exec_setPayload, setPayload_of_mismatch h3 h]; rfl
  · rw [exec_setPayload, setPayload_of_match h3 h0 hlen, deliverView_of_short s _ (by omega)]
  · rw [exec_setPayload, setPayload_of_match (by omega) h0 hlen, needLength_of_le _ (by omega), splice, hlen]; rfl
  · rw [exec_setChecksum, setChecksum, needLength_of_le _ h3, deliverView_of_short s _ (by omega)]
  · rw [toNat_lowByte, toNat_highByte]
    omega
  · rw [exec_setChecksum, setChecksum_of_le c (by omega), checksumIndex,
      show 4 + (viewIdLength p).toNat + (viewDataLength p).toNat =
        3 + (viewIdLength p).toNat + (viewDataLength p).toNat + 1 by omega]
    rfl

/-! ### What a header setter leaves alone (R232) -/

theorem eq_ok_of_deliverView {p p' : Bytes} {r : Ret Bytes} {s : State}
    (h : deliverView p r s = .next { s with result := .view none p' }) : r = .ok p' := by
  cases r with
  | ok q => exact congrArg Ret.ok (Result.view.inj (result_of_next_eq h)).2
  | raise e => cases result_of_next_eq h
  | refuse why => cases h

theorem le_length_of_needLength_ok {α : Type} {p : Bytes} {n : Nat} {r : Ret α} {a : α}
    (h : needLength p n r = .ok a) : n ≤ p.length := by
  by_contra hlt
  rw [needLength_of_lt _ (not_le.mp hlt)] at h
  cases h

section
variable {p : Bytes} (x : Byte)

theorem viewIdLength_set (i : Nat) (hi : i ≠ 2) : viewIdLength (p.set i x) = viewIdLength p :=
  congrArg idLengthOf (byteAt_set_other x hi)

theorem viewResponse_set (i : Nat) (hi : i ≠ 2) : viewResponse (p.set i x) = viewResponse p :=
  congrArg responseOf (byteAt_set_other x hi)

theorem viewAcknum_set (i : Nat) (hi : i ≠ 2) : viewAcknum (p.set i x) = viewAcknum p :=
  congrArg acknumOf (byteAt_set_other x hi)

theorem viewOffset_set (i : Nat) (hi : i ≠ 1) : viewOffset (p.set i x) = viewOffset p :=
  congrArg offsetOf (byteAt_set_other x hi)

theorem viewInternal_set (i : Nat) (hi : i ≠ 1) : viewInternal (p.set i x) = viewInternal p :=
  congrArg internalOf (byteAt_set_other x hi)

theorem viewTypeCode_set (i : Nat) (hi : i ≠ 1) : viewTypeCode (p.set i x) = viewTypeCode p :=
  congrArg typeCodeOf (byteAt_set_other x hi)

theorem viewDataLength_set (i : Nat) (h0 : i ≠ 0) (h1 : i ≠ 1) : viewDataLength (p.set i x) = viewDataLength p := by
  rw [viewDataLength, byteAt_set_other x h0, byteAt_set_other x h1, viewDataLength]

end

section
variable {p : Bytes} (o i r : Bool) (t n : BitVec 4) (d : BitVec 2) (a : BitVec 3)

/-- The fields of a view whose header byte 1 has been written. -/
theorem fields_set_headerByte1 (h : 2 ≤ p.length) : let p' := p.set 1 (headerByte1 o i t d)
    viewOffset p' = o ∧ viewInternal p' = i ∧ viewTypeCode p' = t ∧ viewDataLength p' = d ++ byteAt p 0 ∧
      viewIdLength p' = viewIdLength p ∧ viewResponse p' = viewResponse p ∧ viewAcknum p' = viewAcknum p := by
  intro p'
  have h1 : byteAt p' 1 = headerByte1 o i t d := byteAt_set_same _ h
  have h0 : byteAt p' 0 = byteAt p 0 := byteAt_set_other _ (by decide)
  refine ⟨?_, ?_, ?_, ?_, viewIdLength_set _ 1 (by decide), viewResponse_set _ 1 (by decide),
    viewAcknum_set _ 1 (by decide)⟩
  · rw [viewOffset, h1, offsetOf_headerByte1]
  · rw [viewInternal, h1, internalOf_headerByte1]
  · rw [viewTypeCode, h1, typeCodeOf_headerByte1]
  · rw [viewDataLength, h1, h0, dataLengthOf, dataLengthHigh_headerByte1]

/-- The fields of a view whose header byte 2 has been written. -/
theorem fields_set_headerByte2 (h : 3 ≤ p.length) : let p' := p.set 2 (headerByte2 a r n)
    viewDataLength p' = viewDataLength p ∧ viewOffset p' = viewOffset p ∧ viewInternal p' = viewInternal p ∧
      viewTypeCode p' = viewTypeCode p ∧ viewIdLength p' = n ∧ viewResponse p' = r ∧ viewAcknum p' = a := by
  intro p'
  have h2 : byteAt p' 2 = headerByte2 a r n := byteAt_set_same _ h
  refine ⟨viewDataLength_set _ 2 (by decide) (by decide), viewOffset_set _ 2 (by decide),
    viewInternal_set _ 2 (by decide), viewTypeCode_set _ 2 (by decide), ?_, ?_, ?_⟩
  · rw [viewIdLength, h2, idLengthOf_headerByte2]
  · rw [viewResponse, h2, responseOf_headerByte2]
  · rw [viewAcknum, h2, acknumOf_headerByte2]

end

/-! A header setter that succeeds has stored a header byte of the old fields with its own replaced. -/

section
variable {p p' : Bytes}

theorem setDataLength_ok {v : Nat} (h : setDataLength p v = .ok p') : 2 ≤ p.length ∧ p' =
    (p.set 0 (BitVec.ofNat 8 v)).set 1
      (headerByte1 (viewOffset p) (viewInternal p) (viewTypeCode p) (BitVec.ofNat 2 (v / 256))) := by
  have hlen := le_length_of_needLength_ok h
  rcases lt_trichotomy v 1024 with hlt | rfl | hgt
  · rw [setDataLength_of_lt hlen hlt] at h
    exact ⟨hlen, (Ret.ok.inj h).symm⟩
  · rw [setDataLength_1024 hlen] at h
    cases h
  · rw [setDataLength_of_gt hlen hgt] at h
    cases h

theorem setType_ok {t : MsgType} (h : setType p t = .ok p') : 2 ≤ p.length ∧ ∃ c, p' =
    p.set 1 (headerByte1 (viewOffset p) (viewInternal p) c ((byteAt p 1).extractLsb' 0 2)) := by
  have hlen := le_length_of_needLength_ok h
  rcases Nat.lt_or_ge 15 (msgTypeCode t) with hgt | hle
  · rw [setType_of_gt hlen hgt] at h
    cases h
  · rw [setType_of_le hlen hle] at h
    exact ⟨hlen, _, (Ret.ok.inj h).symm⟩

theorem setIdLength_ok {v : Nat} (h : setIdLength p v = .ok p') : 3 ≤ p.length ∧ ∃ n, p' =
    p.set 2 (headerByte2 (viewAcknum p) (viewResponse p) n) := by
  have hlen := le_length_of_needLength_ok h
  by_cases hv : v = 0 ∨ 15 < v
  · rw [setIdLength_out_of_range hlen hv] at h
    cases h
  · rw [setIdLength_of_le hlen (by omega) (by omega)] at h
    exact ⟨hlen, _, (Ret.ok.inj h).symm⟩

theorem setAcknum_ok {v : Nat} (h : setAcknum p v = .ok p') : 3 ≤ p.length ∧ ∃ a, p' =
    p.set 2 (headerByte2 a (viewResponse p) (viewIdLength p)) := by
  have hlen := le_length_of_needLength_ok h
  rcases Nat.lt_or_ge 7 v with hgt | hle
  · rw [setAcknum_of_gt hlen hgt] at h
    cases h
  · rw [setAcknum_of_le hlen hle] at h
    exact ⟨hlen, _, (Ret.ok.inj h).symm⟩

end

/-- Header byte 1 written with its own two bits of `data_length`: the length reads as before (R77). -/
theorem dataLength_of_own_bytes (p : Bytes) : (byteAt p 1).extractLsb' 0 2 ++ byteAt p 0 = viewDataLength p := rfl

/-- Settles O58, reading the fields off the header byte that each setter stores. -/
theorem settersAreIndependent : Obligations.SettersAreIndependent := by
  intro p p' s
  refine ⟨fun v hx => ?dataLength, fun f hx => ?offset, fun t hx => ?type, fun f hx => ?internal, fun v hx => ?idLength,
    fun f hx => ?response, fun v hx => ?acknum⟩
  case dataLength =>
    obtain ⟨hlen, rfl⟩ := setDataLength_ok (eq_ok_of_deliverView hx)
    obtain ⟨hoff, hint, htype, -, hidl, hresp, hack⟩ := fields_set_headerByte1 (p := p.set 0 (BitVec.ofNat 8 v.toNat))
      (viewOffset p) (viewInternal p) (viewTypeCode p) (BitVec.ofNat 2 (v.toNat / 256)) (by rwa [List.length_set])
    exact ⟨hoff, hint, htype, hidl.trans (viewIdLength_set _ 0 (by decide)),
      hresp.trans (viewResponse_set _ 0 (by decide)), hack.trans (viewAcknum_set _ 0 (by decide))⟩
  case offset =>
    have hok := eq_ok_of_deliverView hx
    have hlen := le_length_of_needLength_ok hok
    obtain rfl := Ret.ok.inj ((setOffset_of_le f hlen).symm.trans hok)
    obtain ⟨-, hint, htype, hdl, hrest⟩ := fields_set_headerByte1 f (viewInternal p) (viewTypeCode p)
      ((byteAt p 1).extractLsb' 0 2) hlen
    exact ⟨hdl.trans (dataLength_of_own_bytes p), hint, htype, hrest⟩
  case type =>
    obtain ⟨hlen, c, rfl⟩ := setType_ok (eq_ok_of_deliverView hx)
    obtain ⟨hoff, hint, -, hdl, hrest⟩ := fields_set_headerByte1 (viewOffset p) (viewInternal p) c
      ((byteAt p 1).extractLsb' 0 2) hlen
    exact ⟨hdl.trans (dataLength_of_own_bytes p), hoff, hint, hrest⟩
  case internal =>
    have hok := eq_ok_of_deliverView hx
    have hlen := le_length_of_needLength_ok hok
    obtain rfl := Ret.ok.inj ((setInternal_of_le f hlen).symm.trans hok)
    obtain ⟨hoff, -, htype, hdl, hrest⟩ := fields_set_headerByte1 (viewOffset p) f (viewTypeCode p)
      ((byteAt p 1).extractLsb' 0 2) hlen
    exact ⟨hdl.trans (dataLength_of_own_bytes p), hoff, htype, hrest⟩
  case idLength =>
    obtain ⟨hlen, n, rfl⟩ := setIdLength_ok (eq_ok_of_deliverView hx)
    obtain ⟨hdl, hoff, hint, htype, -, hrest⟩ := fields_set_headerByte2 (viewResponse p) n (viewAcknum p) hlen
    exact ⟨hdl, hoff, hint, htype, hrest⟩
  case response =>
    have hok := eq_ok_of_deliverView hx
    have hlen := le_length_of_needLength_ok hok
    obtain rfl := Ret.ok.inj ((setResponse_of_le f hlen).symm.trans hok)
    obtain ⟨hdl, hoff, hint, htype, hidl, -, hack⟩ := fields_set_headerByte2 f (viewIdLength p) (viewAcknum p) hlen
    exact ⟨hdl, hoff, hint, htype, hidl, hack⟩
  case acknum =>
    obtain ⟨hlen, a, rfl⟩ := setAcknum_ok (eq_ok_of_deliverView hx)
    obtain ⟨hdl, hoff, hint, htype, hidl, hresp, -⟩ := fields_set_headerByte2 (viewResponse p) (viewIdLength p) a hlen
    exact ⟨hdl, hoff, hint, htype, hidl, hresp⟩

/-! ### The recipe PKT (R231) -/

/-- The checks on the arguments that the seven header setters make. -/
structure PktHeaderFits (k : PktArgs) : Prop where
  payload_lt : k.payload.length < 1024
  type_le : msgTypeCode k.type ≤ 15
  id_pos : 1 ≤ k.id.length
  id_le : k.id.length ≤ 15
  acknum_le : k.acknum ≤ 7

/-- Header byte 1 of PKT. -/
def pktByte1 (k : PktArgs) : Byte :=
  headerByte1 k.offset k.internal (BitVec.ofNat 4 (msgTypeCode k.type)) (BitVec.ofNat 2 (k.payload.length / 256))

/-- Header byte 2 of PKT. -/
def pktByte2 (k : PktArgs) : Byte :=
  headerByte2 (BitVec.ofNat 3 k.acknum) k.response (BitVec.ofNat 4 k.id.length)

/-- The first four setters write bytes 0 and 1, whatever comes after them. -/
theorem pktHeader_of_byte1 {k : PktArgs} {b0 b1 b2 : Byte} {q : Bytes} (hpl : k.payload.length < 1024)
    (ht : msgTypeCode k.type ≤ 15) : pktHeader k (b0 :: b1 :: b2 :: q) =
    (setIdLength (BitVec.ofNat 8 k.payload.length :: pktByte1 k :: b2 :: q) k.id.length).bind fun p =>
      (setResponse p k.response).bind fun p => setAcknum p k.acknum := by
  rw [pktHeader, setDataLength_of_lt (by simp) hpl, Ret.bind_ok, setType_of_le (by simp) ht, Ret.bind_ok,
    setInternal_of_le _ (by simp), Ret.bind_ok, setOffset_of_le _ (by simp), Ret.bind_ok]
  simp [viewOffset, viewInternal, viewTypeCode, byteAt, pktByte1]

/-- The last three write byte 2. -/
theorem pktHeader_of_fits {k : PktArgs} {b0 b1 b2 : Byte} {q : Bytes} (h : PktHeaderFits k) :
    pktHeader k (b0 :: b1 :: b2 :: q) = .ok (BitVec.ofNat 8 k.payload.length :: pktByte1 k :: pktByte2 k :: q) := by
  rw [pktHeader_of_byte1 h.payload_lt h.type_le, setIdLength_of_le (by simp) h.id_pos h.id_le, Ret.bind_ok,
    setResponse_of_le _ (by simp), Ret.bind_ok, setAcknum_of_le (by simp) h.acknum_le]
  simp [viewAcknum, viewResponse, viewIdLength, byteAt, pktByte2]

/-- PKT's buffer, its first three bytes apart. -/
theorem buildPacket_eq (k : PktArgs) : buildPacket k =
    (pktHeader k (0#8 :: 0#8 :: 0#8 :: List.replicate (k.id.length + k.payload.length + 2) 0#8)).bind fun p =>
      (setMsgId p k.id).bind fun p => (setPayload p k.payload).bind fun p => setChecksum p (computedChecksum p) := by
  have hlen : 3 + k.id.length + k.payload.length + 2 = (k.id.length + k.payload.length + 2) + 1 + 1 + 1 := by omega
  rw [buildPacket, hlen]
  rfl

theorem exec_pkt (k : PktArgs) (s : State) : exec (.pkt k) s = deliver .bytes (buildPacket k) s := rfl

/-- Settles O60: the recipe ends at the first setter that objects. -/
theorem pktOutOfRange : Obligations.PktOutOfRange := by
  intro k s
  refine ⟨fun hpl => ?_, fun hpl => ?_, fun hpl ht => ?_, fun hpl ht hid => ?_, fun hpl ht hpos hle hack => ?_,
    fun hpl ht hack hid => ?_⟩ <;> rw [exec_pkt, buildPacket_eq]
  · rw [pktHeader, setDataLength_of_gt (by simp) hpl]; rfl
  · rw [pktHeader, hpl, setDataLength_1024 (by simp)]; rfl
  · rw [pktHeader, setDataLength_of_lt (by simp) hpl, Ret.bind_ok, setType_of_gt (by simp) ht]; rfl
  · rw [pktHeader_of_byte1 hpl ht, setIdLength_out_of_range (by simp) hid]; rfl
  · rw [pktHeader_of_byte1 hpl ht, setIdLength_of_le (by simp) hpos hle, Ret.bind_ok, setResponse_of_le _ (by simp),
      Ret.bind_ok, setAcknum_of_gt (by simp) hack]
    rfl
  · have hone : k.id.length = 1 := by rw [hid]; rfl
    rw [pktHeader_of_fits ⟨hpl, ht, by omega, by omega, hack⟩, Ret.bind_ok,
      setMsgId_of_identity_none (identity?_eq_none (.inr (.inr hid)))]
    rfl

/-- A byte string that is an identity has 1 to 15 bytes. -/
theorem length_of_identity {d : Bytes} (h : identity? d = some d) : 1 ≤ d.length ∧ d.length ≤ 15 := by
  unfold identity? at h
  split at h <;> [cases h; skip]
  split at h <;> [cases h; skip]
  omega

/-- Bytes written over as many old ones. -/
theorem splice_append {a old d q : Bytes} {i : Nat} (hi : i = a.length) (hold : old.length = d.length) :
    splice (a ++ (old ++ q)) i d = a ++ (d ++ q) := by
  subst hi
  rw [splice, List.take_left, ← hold, ← List.drop_drop, List.drop_left, List.drop_left, List.append_assoc]

section
variable {b0 b1 b2 : Byte} {id payload old q : Bytes} (hid : (idLengthOf b2).toNat = id.length)
include hid

theorem setMsgId_over (hident : identity? id = some id) (hold : old.length = id.length) :
    setMsgId (b0 :: b1 :: b2 :: (old ++ q)) id = .ok (b0 :: b1 :: b2 :: (id ++ q)) := by
  have hn : (viewIdLength (b0 :: b1 :: b2 :: (old ++ q))).toNat = id.length := hid
  rw [setMsgId_of_le hident hn.symm (by simp only [List.length_cons, List.length_append]; omega)]
  exact congrArg Ret.ok (splice_append (a := [b0, b1, b2]) rfl hold)

variable (hdl : (dataLengthOf b0 b1).toNat = payload.length)
include hdl

theorem setPayload_over (hpos : id.length ≠ 0) (hold : old.length = payload.length) :
    setPayload (b0 :: b1 :: b2 :: (id ++ (old ++ q))) payload = .ok (b0 :: b1 :: b2 :: (id ++ (payload ++ q))) := by
  have hn : (viewIdLength (b0 :: b1 :: b2 :: (id ++ (old ++ q)))).toNat = id.length := hid
  have hlen : 3 + id.length + payload.length ≤ (b0 :: b1 :: b2 :: (id ++ (old ++ q))).length := by
    simp only [List.length_cons, List.length_append]
    omega
  have hd : payload.length = (viewDataLength (b0 :: b1 :: b2 :: (id ++ (old ++ q)))).toNat := hdl.symm
  rw [setPayload_of_match (by omega) (by omega) hd, hn, needLength_of_le _ hlen]
  exact congrArg Ret.ok
    (splice_append (a := b0 :: b1 :: b2 :: id) (by simp only [List.length_cons]; omega) hold)

theorem setChecksum_layoutBytes (c0 c : Word16) :
    setChecksum (layoutBytes b0 b1 b2 id payload c0) c = .ok (layoutBytes b0 b1 b2 id payload c) := by
  have hlen : ([b0, b1, b2] ++ id ++ payload).length = 3 + id.length + payload.length := by
    simp only [List.length_append, List.length_cons, List.length_nil]
  rw [setChecksum_of_le c (viewWireSize_layoutBytes hid hdl).le, checksumIndex_layoutBytes hid hdl, layoutBytes, ← hlen,
    List.set_append_right _ _ (Nat.le_refl _), List.set_append_right _ _ (Nat.le_add_right _ 1), Nat.sub_self,
    Nat.add_sub_cancel_left]
  rfl

end

/-- The packet PKT builds, its checksum last. -/
def pktBytes (k : PktArgs) (c : Word16) : Bytes :=
  layoutBytes (BitVec.ofNat 8 k.payload.length) (pktByte1 k) (pktByte2 k) k.id k.payload c

section
variable {k : PktArgs} (h : PktHeaderFits k)
include h

theorem toNat_idLengthOf_pktByte2 : (idLengthOf (pktByte2 k)).toNat = k.id.length :=
  toNat_idLengthOf_headerByte2 _ _ h.id_le

theorem toNat_dataLengthOf_pktByte1 :
    (dataLengthOf (BitVec.ofNat 8 k.payload.length) (pktByte1 k)).toNat = k.payload.length :=
  toNat_dataLengthOf_headerByte1 _ _ _ (Nat.le_of_lt_succ h.payload_lt)

theorem computedChecksum_pkt (c : Word16) : computedChecksum (pktBytes k c) = computedChecksum (pktBytes k 0) := by
  have hid := toNat_idLengthOf_pktByte2 h
  have hdl := toNat_dataLengthOf_pktByte1 h
  rw [computedChecksum, computedChecksum, pktBytes, pktBytes, take_checksumIndex_layoutBytes hid hdl,
    take_checksumIndex_layoutBytes hid hdl]

theorem buildPacket_of_fits (hident : identity? k.id = some k.id) :
    buildPacket k = .ok (pktBytes k (computedChecksum (pktBytes k 0))) := by
  have hid := toNat_idLengthOf_pktByte2 h
  have hdl := toNat_dataLengthOf_pktByte1 h
  have hpos := h.id_pos
  have hzeros : List.replicate (k.id.length + k.payload.length + 2) 0#8 =
      List.replicate k.id.length 0#8 ++ (List.replicate k.payload.length 0#8 ++ [lowByte 0, highByte 0]) := by
    rw [Nat.add_assoc, List.replicate_add, List.replicate_add]
    rfl
  rw [buildPacket_eq, pktHeader_of_fits h, Ret.bind_ok, hzeros, setMsgId_over hid hident (by simp), Ret.bind_ok,
    setPayload_over hid hdl (by omega) (by simp), Ret.bind_ok]
  have hlayout : BitVec.ofNat 8 k.payload.length :: pktByte1 k :: pktByte2 k ::
      (k.id ++ (k.payload ++ [lowByte 0, highByte 0])) = pktBytes k 0 := by
    simp [pktBytes, layoutBytes]
  rw [hlayout]
  exact setChecksum_layoutBytes hid hdl 0 _

end

/-- Settles O59: PKT writes the layout of R54, whose checksum is computed over bytes that the checksum is no part of. -/
theorem builtPacketsValidate : Obligations.BuiltPacketsValidate := by
  intro k s hident hpl ht hack htype
  obtain ⟨hpos, hle⟩ := length_of_identity hident
  have h : PktHeaderFits k := ⟨Nat.lt_succ_of_le hpl, ht, hpos, hle, hack⟩
  have hid := toNat_idLengthOf_pktByte2 h
  have hdl := toNat_dataLengthOf_pktByte1 h
  have hcode (c : Word16) : (viewTypeCode (pktBytes k c)).toNat = msgTypeCode k.type := by
    show (typeCodeOf (pktByte1 k)).toNat = _
    rw [pktByte1, typeCodeOf_headerByte1, BitVec.toNat_ofNat]
    omega
  refine ⟨pktBytes k (computedChecksum (pktBytes k 0)), ?_, exec_validate_of_none (validate_of_checksum_eq ?_ ?_ ?_ ?_),
    length_layoutBytes .., (viewWireSize_layoutBytes hid hdl).symm, viewMsgId_layoutBytes hid,
    viewPayload_layoutBytes hid hdl, hcode _, internalOf_headerByte1 .., offsetOf_headerByte1 ..,
    responseOf_headerByte2 .., ?_⟩
  · rw [exec_pkt, buildPacket_of_fits h hident]
    rfl
  · have hn : (viewIdLength (pktBytes k (computedChecksum (pktBytes k 0)))).toNat = k.id.length := hid
    omega
  · exact (viewWireSize_layoutBytes hid hdl).le
  · rintro ⟨hr, h12⟩
    rw [hcode] at h12
    exact absurd (htype hr) (not_le.mpr h12)
  · rw [computedChecksum_pkt h (computedChecksum (pktBytes k 0))]
    exact viewChecksum_layoutBytes hid hdl
  · show (acknumOf (pktByte2 k)).toNat = _
    rw [pktByte2, acknumOf_headerByte2, BitVec.toNat_ofNat]
    omega

end Sys2Proof.Machine
end

section
/-! PROOFS. Layout and code rows (spec/30_encoding.md, spec/10_state.md R21 and R35, spec/60_exceptions.md R240), type
sizes and short views (spec/41_header_parser.md R130 to R144, U5). -/

namespace Sys2Proof.Machine

/-! ### Layout rows (R73 to R78) -/

theorem packetRow_eq_none {p : Bytes} (h : p.length < 5 ∨ (viewIdLength p).toNat = 0 ∨ p.length ≠ viewWireSize p) :
    packetRow p = none := by
  rcases packetRow_cases p with ⟨h0, hlen, _⟩ | hnone
  · have h6 := six_le_viewWireSize h0
    rcases h with h | h | h
    · omega
    · exact absurd h h0
    · exact absurd hlen h
  · exact hnone

/-- Settles O30: each row delivers its operands, and bytes that are no packet go to VALIDATE. -/
theorem layoutRows : Obligations.LayoutRows := by
  intro s
  refine ⟨fun _ => rfl, fun _ => rfl, fun _ _ c _ => ⟨msgTypeOfCode c, rfl, rfl⟩, fun _ _ _ => rfl, fun _ => rfl,
    fun p h => ?_⟩
  have hw : viewWireSize p =
      5 + (byteAt p 2).toNat % 16 + ((byteAt p 1).toNat % 4 * 256 + (byteAt p 0).toNat) := by
    rw [viewWireSize, checksumIndex_eq]
    omega
  rw [← hw, ← toNat_viewIdLength] at h
  show decodePacket p = _
  rw [decodePacket, packetRow_eq_none h, Option.getD_none]

/-! ### Code rows (R21, R79, R240) -/

/-- Settles O31, code by code. -/
theorem typeCodeRows : Obligations.TypeCodeRows := by
  intro s r hr
  fin_cases hr
  all_goals exact ⟨rfl, rfl, rfl⟩

/-- Settles O32, state by state. -/
theorem stateCodeRows : Obligations.StateCodeRows := by
  intro s r hr
  fin_cases hr
  all_goals exact ⟨rfl, rfl, rfl⟩

/-- Settles O34, error by error. -/
theorem errorCodeRows : Obligations.ErrorCodeRows := by
  intro s c r hr
  fin_cases hr
  all_goals exact ⟨rfl, rfl, rfl⟩

/-! ### Outcome codes and the ports (R35) -/

/-- Settles O33: the ports are functions of the last outcome, and every DECODE leaves its own. -/
theorem outcomeCodeRows : Obligations.OutcomeCodeRows := by
  intro s
  refine ⟨rfl, rfl, rfl, fun b => ⟨_, (decodeByte b s).2, exec_decode b s, rfl, rfl⟩, fun h => ?_,
    fun n bytes h hn => ?_,
    fun e h => ?_⟩
  · simp [State.outKind, State.outLen, State.outErr, State.outInfo, h, OutKind.code]
  · have hlen : (BitVec.ofNat 11 n).toNat = n := Nat.mod_eq_of_lt (by omega)
    simp [State.outKind, State.outLen, State.outErr, State.outInfo, h, OutKind.code, hlen]
  · simp [State.outKind, State.outLen, State.outErr, State.outInfo, h, OutKind.code]

/-! ### Type sizes (R139) -/

theorem exec_typeSize (t : MsgType) (s : State) :
    exec (.typeSize t) s = .next (s.finish (.number (msgTypeSize t))) := rfl

theorem exec_typeArraySize (t : MsgType) (n : Nat) (s : State) :
    exec (.typeArraySize t n) s = .next (s.finish (.number (n * msgTypeSize t))) := rfl

/-- Settles O40, type by type. -/
theorem typeSizes : Obligations.TypeSizes := by
  intro s n r hr
  have hsize : msgTypeSize r.1 = r.2 := by
    fin_cases hr
    all_goals rfl
  exact ⟨by rw [exec_typeSize, hsize]; rfl, fun k => by rw [exec_typeArraySize, hsize]; rfl⟩

/-! ### Short views (U5) -/

theorem deliver_of_short {α : Type} {p : Bytes} {n : Nat} (f : α → Result) (r : Ret α) (s : State) (h : p.length < n) :
    deliver f (needLength p n r) s = .refused .viewTooShort := by
  rw [needLength_of_lt _ h, deliver_refuse]

/-- A view with a header, too short for what comes after it. -/
theorem deliver_of_short_rest {α : Type} {p : Bytes} {n : Nat} (f : α → Result) (r : Ret α) (s : State)
    (h : p.length < n) : deliver f (needLength p 3 (needLength p n r)) s = .refused .viewTooShort := by
  rcases Nat.lt_or_ge p.length 3 with h3 | h3
  · exact deliver_of_short f _ s h3
  · rw [needLength_of_le _ h3, deliver_of_short f _ s h]

/-- Settles O38. -/
theorem shortViewsAreRefused : Obligations.ShortViewsAreRefused := by
  intro p s
  refine ⟨fun h i hi => ?_, fun h i hi => ?_, fun idl dl hidl hdl => ?_⟩
  · fin_cases hi
    all_goals exact deliver_of_short _ _ s h
  · fin_cases hi
    all_goals exact deliver_of_short _ _ s h
  · obtain rfl : idl = (viewIdLength p).toNat := hidl.trans (toNat_viewIdLength p).symm
    obtain rfl : dl = (viewDataLength p).toNat := hdl.trans (toNat_viewDataLength p).symm
    refine ⟨fun h0 h => ?_, fun h0 h => ?_, fun h => deliver_of_short_rest _ _ s h,
      fun h => deliver_of_short_rest _ _ s h⟩
    · show deliver .bytes (msgIdView p) s = _
      rw [msgIdView, if_neg h0]
      exact deliver_of_short_rest _ _ s h
    · show deliver .bytes (payloadView p) s = _
      rw [payloadView, if_neg h0]
      exact deliver_of_short_rest _ _ s h

end Sys2Proof.Machine
end

section
/-! PROOFS. The DECODE rows (spec/43_decoder_fsm.md R180, R184 to R186, R192, R193, R196, R197;
spec/30_encoding.md R84), NEW (R181), FEED (R196) and UNSTUFF under FF_BLOCK_EXCEPTION (R112). -/

namespace Sys2Proof.Machine

/-! ### NEW and FEED (R181, R196) -/

theorem exec_new (c : Option Config) (s : State) : exec (.new c) s = .next (s.renew (c.getD s.cfg)).finishQuiet := rfl

/-- Settles O7. -/
theorem newResetsEverything : Obligations.NewResetsEverything := fun c s =>
  ⟨_, exec_new c s, rfl, (c.getD s.cfg).cap_ge, rfl, ⟨rfl, rfl, rfl, rfl, rfl, rfl, rfl, rfl⟩, rfl, rfl, fun _ => rfl,
    rfl, rfl, rfl, rfl⟩

theorem exec_feed_of_lt {s : State} (x : Byte) (h : s.cursor < s.cfg.cap) :
    exec (.feed x) s = .next ((s.store x).finish .ok) := by
  show execFeed x s = _
  rw [execFeed, feed_of_lt h]

theorem exec_feed_of_ge {s : State} (x : Byte) (h : s.cfg.cap ≤ s.cursor) :
    exec (.feed x) s = .next (s.raiseError .insufficientBufferSize) := by
  show execFeed x s = _
  rw [execFeed, feed_of_ge h]

/-- Settles O14. -/
theorem feedStoresOrFails : Obligations.FeedStoresOrFails := fun x _ =>
  ⟨exec_feed_of_lt x, exec_feed_of_ge x⟩

/-! ### UNSTUFF under FF_BLOCK_EXCEPTION (R112) -/

/-- The micro-operation UNSTUFF.FF is the step inside DECODE, with what it hands on as its result. -/
theorem exec_unstuffFf_of_unstuff {b : Byte} {x : Option Byte} {s u : State} (hb : b ≠ delimiter)
    (hc : s.cfg.ffBlockException = true) (h : unstuff b s = (u, x)) :
    exec (.unstuffFf b) s = .next (u.finish (.reconstructed x)) := by
  have hexc : unstuffException b s = (u, x) := by simpa [unstuff, hc] using h
  show execUnstuffFf b s = _
  simp [execUnstuffFf, hb, hc, hexc]

/-- Settles O13, by the cases of UNSTUFF: counting down, a code byte after a full block, and any other code byte. -/
theorem unstuffUnderException : Obligations.UnstuffUnderException := by
  intro b s hb hc
  rcases unstuff_cases b s with ⟨hlt, h⟩ | ⟨_, hff, _⟩ | ⟨hle, _, hp, h⟩ | ⟨hle, _, hp, h⟩
  case inl =>
    rw [if_pos hlt, if_pos hlt]
    exact ⟨exec_unstuffFf_of_unstuff hb hc h, h⟩
  case inr.inl => simp [hc] at hff
  all_goals
    rw [if_neg hle.not_gt, if_neg hle.not_gt, hp]
    exact ⟨exec_unstuffFf_of_unstuff hb hc h, h⟩

/-! ### The rules of the storing states (R184 to R186, R192, R193, R196) -/

/-- A full buffer ends every storing rule the same way. -/
theorem inState_of_full {st : FsmState} {x : Byte} {s : State} (hst : storingState st = true)
    (h : s.cfg.cap ≤ s.cursor) : inState st x s = (s, .error .insufficientBufferSize) := by
  cases st
  case frameOffset | offsetB0 | offsetB1 => cases hst
  all_goals exact onFeed_of_ge _ h

section
variable {x : Byte} {s : State} (h : s.cursor < s.cfg.cap)
include h

theorem inHeaderB0_of_lt : inHeaderB0 x s = (((s.store x).latchLengthLow x).goto .headerB1, .none) := onFeed_of_lt _ h

theorem inHeaderB1_of_lt : inHeaderB1 x s = (((s.store x).latchLengthHigh x).goto .headerB2, .none) := onFeed_of_lt _ h

theorem inHeaderB2_of_lt : inHeaderB2 x s = (((s.store x).latchIdLength x).goto .msgId, .none) := onFeed_of_lt _ h

theorem inCrcB0_of_lt : inCrcB0 x s = ((s.store x).goto .crcB1, .none) := onFeed_of_lt _ h

theorem inCrcB1_of_lt : inCrcB1 x s = complete (s.store x) := onFeed_of_lt _ h

end

/-- R192 from the other side: the state stays while `payload_count` is below `data_length`. -/
theorem chooseAfterPayload_eq_goto (s : State) : chooseAfterPayload s =
    (s.goto (if s.payloadCount.toNat < s.dataLength.toNat then s.fsm else .crcB0), .none) := by
  rw [chooseAfterPayload]
  by_cases h : s.payloadCount.toNat < s.dataLength.toNat
  · rw [if_pos h, if_neg h.not_ge]; rfl
  · rw [if_neg h, if_pos (not_lt.mp h)]

theorem inPayload_of_lt {x : Byte} {s : State} (h : s.cursor < s.cfg.cap) : inPayload x s =
    ((s.store x).countPayload.goto
      (if (s.payloadCount + 1).toNat < s.dataLength.toNat then s.fsm else .crcB0), .none) :=
  (onFeed_of_lt _ h).trans (chooseAfterPayload_eq_goto _)

/-! ### The rows of the storing states -/

/-- Settles O16: the byte is stored, and the fields it holds are latched. -/
theorem headerRows : Obligations.HeaderRows := by
  intro b x s u hb hu hroom
  obtain ⟨v, f, rfl⟩ := eq_setPrevCodeFf_of_unstuff hu
  refine ⟨fun hst => ?_, fun hst => ?_, fun hst => ?_⟩
  · refine ⟨s.dataLength.extractLsb' 8 2 ++ x, ?_, exec_stateRow_of_unstuff hb hst hu (inHeaderB0_of_lt hroom)⟩
    have hdl := s.dataLength.isLt
    rw [toNat_append_byte, BitVec.extractLsb'_toNat, Nat.shiftRight_eq_div_pow]
    omega
  · refine ⟨x.extractLsb' 0 2 ++ s.dataLength.extractLsb' 0 8, ?_, ?_⟩
    · rw [toNat_append_byte, toNat_dataLengthHigh, BitVec.extractLsb'_toNat, Nat.shiftRight_zero]
    · rw [← offsetOf_eq_decide]
      exact exec_stateRow_of_unstuff hb hst hu (inHeaderB1_of_lt hroom)
  · exact ⟨idLengthOf x, toNat_idLengthOf x, exec_stateRow_of_unstuff hb hst hu (inHeaderB2_of_lt hroom)⟩

/-- Settles O19. -/
theorem payloadAndCrcB0Rows : Obligations.PayloadAndCrcB0Rows := by
  intro b x s u hb hu hroom
  obtain ⟨v, f, rfl⟩ := eq_setPrevCodeFf_of_unstuff hu
  refine ⟨fun hst => ?_, fun hst => exec_stateRow_of_unstuff hb hst hu (inCrcB0_of_lt hroom)⟩
  have hrow := exec_stateRow_of_unstuff hb hst hu (inPayload_of_lt hroom)
  rw [← hst]
  exact hrow

/-! ### DECODE and its dispatch rows (R84, R180, R196, R197) -/

/-- After UNSTUFF only the rule's doing on what it hands on counts. -/
theorem afterUnstuff_congr {r r' : Byte → State → State × DecodeOutcome} {b : Byte} {s : State}
    (h : ∀ u x, unstuff b s = (u, some x) → r x u = r' x u) : afterUnstuff r b s = afterUnstuff r' b s := by
  rcases hu : unstuff b s with ⟨u, _ | x⟩
  · rw [afterUnstuff_none hu, afterUnstuff_none hu]
  · rw [afterUnstuff_some hu, afterUnstuff_some hu, h u x hu]

theorem unstuff_of_skips {s : State} (b : Byte) (h : skipsImpliedZero s = true) :
    unstuff b s = (loadCode b s, none) := by
  simp only [skipsImpliedZero, countdownExpired, Bool.and_eq_true, decide_eq_true_eq] at h
  obtain ⟨⟨hc, hle⟩, hp⟩ := h
  rw [unstuff_of_expired b hle, codeByteResult, hc, hp]
  rfl

/-- UNSTUFF leaves the cursor and the capacity alone. -/
theorem full_of_unstuff {b : Byte} {x : Option Byte} {s u : State} (hu : unstuff b s = (u, x))
    (h : s.cfg.cap ≤ s.cursor) : u.cfg.cap ≤ u.cursor := by
  obtain ⟨v, f, rfl⟩ := eq_setPrevCodeFf_of_unstuff hu
  exact h

/-- The row of the machine's state is DECODE. -/
theorem exec_stateRow_self {b : Byte} (s : State) (hb : b ≠ delimiter) :
    exec (stateRow s.fsm b) s = exec (.decode b) s := by
  rw [exec_stateRow, beq_self_eq_true, runRow_of_selected hb, exec_decode, decodeByte_of_ne hb]

/-- A selected row whose rule does what the state's does is DECODE. -/
theorem runRow_eq_decode {b : Byte} {sel : Bool} {rule : Byte → State → State × DecodeOutcome} {s : State}
    (hb : b ≠ delimiter) (hsel : sel = true)
    (h : ∀ u x, unstuff b s = (u, some x) → rule x u = inState s.fsm x u) :
    runRow b sel rule s = exec (.decode b) s := by
  rw [hsel, runRow_of_selected hb, afterUnstuff_congr h, exec_decode, decodeByte_of_ne hb]

theorem exec_decodeCodeAfterFf {b : Byte} {s : State} (hb : b ≠ delimiter) (hsel : codeAfterFfSelected s = true) :
    exec (.decodeCodeAfterFf b) s = exec (.decode b) s := by
  refine runRow_eq_decode hb hsel fun u x hu => ?_
  rw [codeAfterFfSelected, Bool.and_eq_true] at hsel
  rw [unstuff_of_skips b hsel.2] at hu
  cases hu

theorem exec_decodeFull {b : Byte} {s : State} (hb : b ≠ delimiter) (hsel : fullSelected s = true) :
    exec (.decodeFull b) s = exec (.decode b) s := by
  refine runRow_eq_decode hb hsel fun u x hu => ?_
  simp only [fullSelected, Bool.and_eq_true, bufferFull, decide_eq_true_eq] at hsel
  obtain ⟨⟨hst, hfull⟩, -⟩ := hsel
  rw [inState_of_full hst (full_of_unstuff hu hfull)]
  rfl

/-- Settles O11: every row that the map selects does what DECODE does. -/
theorem decodeIsItsDispatchRow : Obligations.DecodeIsItsDispatchRow := by
  intro b s
  refine ⟨?_, fun hb => (exec_stateRow_self s hb).symm⟩
  unfold dispatchOf
  split
  · rename_i hb
    rw [hb, exec_of_delimiter (.inl rfl), exec_of_delimiter (.inr (.inl rfl))]
  rename_i hb
  split
  · exact (exec_decodeCodeAfterFf hb ‹_›).symm
  split
  · exact (exec_decodeFull hb ‹_›).symm
  · exact (exec_stateRow_self s hb).symm

/-- Settles O21: DECODE and the state's row run a storing rule on a full buffer, and DECODE.FULL is selected. -/
theorem fullBufferParks : Obligations.FullBufferParks := by
  intro b x s u hb hst hfull hu i hi
  have hdec : exec (.decode b) s = .next (finishOutcome (u, .error .insufficientBufferSize)) := by
    rw [exec_decode, decodeByte_of_ne hb, afterUnstuff_some hu, inState_of_full hst (full_of_unstuff hu hfull)]
  rcases hi with rfl | rfl | rfl
  · exact hdec
  · have hskip : skipsImpliedZero s = false := by
      by_contra h
      rw [unstuff_of_skips b (by simpa using h)] at hu
      cases hu
    have hsel : fullSelected s = true := by
      simp [fullSelected, bufferFull, codeAfterFfSelected, hst, hfull, hskip]
    exact (exec_decodeFull hb hsel).trans hdec
  · exact (exec_stateRow_self s hb).trans hdec

/-- Settles O22: the byte is loaded and nothing is handed on. -/
theorem codeByteAfterFullBlock : Obligations.CodeByteAfterFullBlock := by
  intro b s hb hc hst hle hp i hi
  have hskip : skipsImpliedZero s = true := by simp [skipsImpliedZero, countdownExpired, hc, hle, hp]
  have hsel : codeAfterFfSelected s = true := by simp [codeAfterFfSelected, hst, hskip]
  have hdec : exec (.decode b) s = .next (finishOutcome (loadCode b s, .none)) := by
    rw [exec_decode, decodeByte_of_ne hb, afterUnstuff_none (unstuff_of_skips b hskip)]
  rw [loadCode, if_pos hc] at hdec
  rcases hi with rfl | rfl
  · exact hdec
  · exact (exec_decodeCodeAfterFf hb hsel).trans hdec

/-! ### Rows that are not selected (R84, R111, R112) -/

theorem runRow_delimiter {b : Byte} {sel : Bool} {rule : Byte → State → State × DecodeOutcome} {s : State}
    (hb : b = delimiter) : runRow b sel rule s = .refused .delimiterOperand := if_pos hb

theorem runRow_not_selected {b : Byte} {sel : Bool} {rule : Byte → State → State × DecodeOutcome} {s : State}
    (hb : b ≠ delimiter) (hsel : sel = false) : runRow b sel rule s = .refused .notSelected := by
  rw [runRow, if_neg hb, hsel]
  rfl

/-- Settles O6: a row runs only after the two tests. -/
theorem unselectedRowsAreRefused : Obligations.UnselectedRowsAreRefused := by
  intro b s
  refine ⟨fun i hi => ?_, fun i hi => ?_⟩
  · fin_cases hi
    all_goals exact ⟨fun hb => runRow_delimiter hb, fun hb hsel => runRow_not_selected hb hsel⟩
  · simp only [List.mem_cons, List.not_mem_nil, or_false] at hi
    rcases hi with rfl | rfl
    · refine ⟨fun hb => if_pos hb, fun hb hsel => ?_⟩
      have hc : s.cfg.ffBlockException = true := by simpa [selected] using hsel
      show execUnstuff b s = _
      rw [execUnstuff, if_neg hb, if_pos hc]
    · refine ⟨fun hb => if_pos hb, fun hb hsel => ?_⟩
      show execUnstuffFf b s = _
      rw [execUnstuffFf, if_neg hb, if_neg (by simpa [selected] using hsel)]

end Sys2Proof.Machine
end

section
/-! PROOFS. The whole table: the step (R10, R56), which rows answer a next state, what a row that answers can have done,
and what follows for BUF, the counters and the rows that do not move the decoder (R20, R30 to R33, R58, R83, R257). -/

namespace Sys2Proof.Machine

/-! ### The step (R10, R56) -/

/-- Settles O4. -/
theorem stepRunsTheIssuedOperation : Obligations.StepRunsTheIssuedOperation := by
  intro s
  refine ⟨step_of_nil, rfl, fun f bs rest i hp hd => step_of_fetch hp hd, fun f bs rest e hp hd => ?_,
    fun i rest hp => step_of_fetch hp rfl⟩
  have hfetch : fetch (.word f bs) = .error e := hd
  simp only [step, hp, hfetch]

/-! ### Completion -/

theorem exec_validate_next (p : Bytes) (s : State) : ∃ t, exec (.validate p) s = .next t := by
  cases h : validate s.cfg.rejectUnknownType p with
  | none => exact ⟨_, exec_validate_of_none h⟩
  | some e => exact ⟨_, exec_validate_of_some h⟩

theorem exec_msgId_next {p : Bytes} (s : State) (h3 : 3 ≤ p.length)
    (h : (viewIdLength p).toNat = 0 ∨ 3 + (viewIdLength p).toNat ≤ p.length) : ∃ t, exec (.msgId p) s = .next t := by
  by_cases h0 : (viewIdLength p).toNat = 0
  · exact ⟨_, exec_msgId_of_idLength_zero s h3 h0⟩
  cases hid : identity? (viewMsgId p) with
  | none => exact ⟨_, exec_msgId_of_identity_none s h3 h0 (h.resolve_left h0) hid⟩
  | some d => exact ⟨_, exec_msgId_of_identity_some s h3 h0 (h.resolve_left h0) hid⟩

theorem exec_payload_next {p : Bytes} (s : State) (h3 : 3 ≤ p.length)
    (h : (viewIdLength p).toNat = 0 ∨ checksumIndex p ≤ p.length) : ∃ t, exec (.payload p) s = .next t := by
  by_cases h0 : (viewIdLength p).toNat = 0
  · exact ⟨_, exec_payload_of_idLength_zero s h3 h0⟩
  cases hid : identity? (viewMsgId p) with
  | none => exact ⟨_, exec_payload_of_identity_none s h3 h0 (h.resolve_left h0) hid⟩
  | some d => exact ⟨_, exec_payload_of_identity_some s h3 h0 (h.resolve_left h0) hid⟩

theorem exec_decodeBuf_next (e : Bytes) (s : State) : ∃ t, exec (.decodeBuf e) s = .next t := by
  cases h : blocks? e with
  | none => exact ⟨_, exec_decodeBuf_of_none h s⟩
  | some bs => exact ⟨_, exec_decodeBuf_of_some h s⟩

theorem exec_decodeInPlace_next (e : Bytes) (s : State) : ∃ t, exec (.decodeInPlace e) s = .next t := by
  cases h : blocks? e with
  | none => exact ⟨_, exec_decodeInPlace_of_none h s⟩
  | some bs => exact ⟨_, exec_decodeInPlace_of_some h s⟩

theorem exec_setDataLength_next {p : Bytes} {v : Word16} (s : State) (h : 2 ≤ p.length) (hv : v.toNat ≠ 1024) :
    ∃ t, exec (.setDataLength p v) s = .next t := by
  rcases Nat.lt_or_gt_of_ne hv with hlt | hgt
  · exact ⟨_, by rw [exec_setDataLength, setDataLength_of_lt h hlt, deliverView_ok]⟩
  · exact ⟨_, by rw [exec_setDataLength, setDataLength_of_gt h hgt, deliverView_raise]⟩

theorem exec_setIdLength_next {p : Bytes} (v : Byte) (s : State) (h : 3 ≤ p.length) :
    ∃ t, exec (.setIdLength p v) s = .next t := by
  by_cases hv : v.toNat = 0 ∨ 15 < v.toNat
  · exact ⟨_, by rw [exec_setIdLength, setIdLength_out_of_range h hv, deliverView_raise]⟩
  · exact ⟨_, by rw [exec_setIdLength, setIdLength_of_le h (by omega) (by omega), deliverView_ok]⟩

theorem exec_setMsgId_next {p d : Bytes} (s : State)
    (h : identity? d = none ∨ d.length = (viewIdLength p).toNat ∧ 3 + d.length ≤ p.length) :
    ∃ t, exec (.setMsgId p d) s = .next t := by
  cases hid : identity? d with
  | none => exact ⟨_, by rw [exec_setMsgId, setMsgId_of_identity_none hid, deliverView_raise]⟩
  | some e =>
    obtain ⟨hlen, hle⟩ := h.resolve_left (by simp [hid])
    exact ⟨_, by rw [exec_setMsgId, setMsgId_of_le hid hlen hle, deliverView_ok]⟩

theorem exec_setPayload_next {p d : Bytes} (s : State) (h0 : (viewIdLength p).toNat ≠ 0)
    (hlen : d.length = (viewDataLength p).toNat) (h : 3 + (viewIdLength p).toNat + d.length ≤ p.length) :
    ∃ t, exec (.setPayload p d) s = .next t :=
  ⟨_, by rw [exec_setPayload, setPayload_of_match (by omega) h0 hlen, needLength_of_le _ h, deliverView_ok]⟩

/-- PKT raises an error of its setters or builds the packet (R231). -/
theorem exec_pkt_next {k : PktArgs} (s : State) (hpl : k.payload.length ≠ 1024) (ht : msgTypeCode k.type ≤ 15)
    (hack : k.acknum ≤ 7) : ∃ t, exec (.pkt k) s = .next t := by
  obtain ⟨hlong, -, -, hid, -, hnull⟩ := pktOutOfRange k s
  rcases Nat.lt_or_gt_of_ne hpl with hlt | hgt
  · by_cases hlen : k.id.length = 0 ∨ 15 < k.id.length
    · exact ⟨_, hid hlt ht hlen⟩
    by_cases hzero : k.id = [0#8]
    · exact ⟨_, hnull hlt ht hack hzero⟩
    have hfits : PktHeaderFits k := ⟨hlt, ht, by omega, by omega, hack⟩
    have hident := identity?_eq_some hfits.id_pos hfits.id_le hzero
    exact ⟨_, by rw [exec_pkt, buildPacket_of_fits hfits hident, deliver_ok]⟩
  · exact ⟨_, hlong hgt⟩

/-- A dispatch row that its byte and the state allow. -/
theorem runRow_next_of_selected {b : Byte} {sel : Bool} (rule : Byte → State → State × DecodeOutcome) (s : State)
    (hb : nonZero b = true) (hsel : sel = true) : ∃ t, runRow b sel rule s = .next t := by
  subst hsel
  exact ⟨_, runRow_of_selected ((nonZero_iff b).mp hb)⟩

/-- Settles O5: the operand checks of each row are those of its equation. -/
theorem wellFormedSelectedCompletes : Obligations.WellFormedSelectedCompletes := by
  intro i s hwf hsel
  cases i
  case decodeFrameOffset b => exact runRow_next_of_selected _ s hwf hsel
  case decodeHeaderB0 b => exact runRow_next_of_selected _ s hwf hsel
  case decodeHeaderB1 b => exact runRow_next_of_selected _ s hwf hsel
  case decodeHeaderB2 b => exact runRow_next_of_selected _ s hwf hsel
  case decodeMsgId b => exact runRow_next_of_selected _ s hwf hsel
  case decodeOffsetB0 b => exact runRow_next_of_selected _ s hwf hsel
  case decodeOffsetB1 b => exact runRow_next_of_selected _ s hwf hsel
  case decodePayload b => exact runRow_next_of_selected _ s hwf hsel
  case decodeCrcB0 b => exact runRow_next_of_selected _ s hwf hsel
  case decodeCrcB1 b => exact runRow_next_of_selected _ s hwf hsel
  case decodeCodeAfterFf b => exact runRow_next_of_selected _ s hwf hsel
  case decodeFull b => exact runRow_next_of_selected _ s hwf hsel
  case feed x =>
    rcases Nat.lt_or_ge s.cursor s.cfg.cap with h | h
    · exact ⟨_, exec_feed_of_lt x h⟩
    · exact ⟨_, exec_feed_of_ge x h⟩
  case unstuff b =>
    show ∃ t, execUnstuff b s = .next t
    rw [execUnstuff, if_neg ((nonZero_iff b).mp hwf), if_neg (by simpa [selected] using hsel)]
    exact ⟨_, rfl⟩
  case unstuffFf b =>
    show ∃ t, execUnstuffFf b s = .next t
    rw [execUnstuffFf, if_neg ((nonZero_iff b).mp hwf), if_pos (by simpa [selected] using hsel)]
    exact ⟨_, rfl⟩
  case validate p => exact exec_validate_next p s
  case decodeBuf e => exact exec_decodeBuf_next e s
  case decodeInPlace e => exact exec_decodeInPlace_next e s
  case getDataLength p => exact ⟨_, exec_getDataLength s (of_decide_eq_true hwf)⟩
  case getOffset p => exact ⟨_, exec_getOffset s (of_decide_eq_true hwf)⟩
  case getType p => exact ⟨_, exec_getType s (of_decide_eq_true hwf)⟩
  case getInternal p => exact ⟨_, exec_getInternal s (of_decide_eq_true hwf)⟩
  case getIdLength p => exact ⟨_, exec_getIdLength s (of_decide_eq_true hwf)⟩
  case getResponse p => exact ⟨_, exec_getResponse s (of_decide_eq_true hwf)⟩
  case getAcknum p => exact ⟨_, exec_getAcknum s (of_decide_eq_true hwf)⟩
  case wireSize p => exact ⟨_, exec_wireSize s (of_decide_eq_true hwf)⟩
  case setOffset p f => exact ⟨_, by rw [exec_setOffset, setOffset_of_le f (of_decide_eq_true hwf), deliverView_ok]⟩
  case setInternal p f =>
    exact ⟨_, by rw [exec_setInternal, setInternal_of_le f (of_decide_eq_true hwf), deliverView_ok]⟩
  case setResponse p f =>
    exact ⟨_, by rw [exec_setResponse, setResponse_of_le f (of_decide_eq_true hwf), deliverView_ok]⟩
  case setIdLength p v => exact exec_setIdLength_next v s (of_decide_eq_true hwf)
  case msgId p =>
    simp only [wellFormed, Bool.and_eq_true, Bool.or_eq_true, decide_eq_true_eq, beq_iff_eq] at hwf
    exact exec_msgId_next s hwf.1 hwf.2
  case payload p =>
    simp only [wellFormed, Bool.and_eq_true, Bool.or_eq_true, decide_eq_true_eq, beq_iff_eq] at hwf
    exact exec_payload_next s hwf.1 hwf.2
  case computeChecksum p =>
    simp only [wellFormed, Bool.and_eq_true, decide_eq_true_eq] at hwf
    exact ⟨_, exec_computeChecksum s hwf.1 hwf.2⟩
  case checksum p =>
    simp only [wellFormed, Bool.and_eq_true, decide_eq_true_eq] at hwf
    exact ⟨_, exec_checksum s hwf.1 hwf.2⟩
  case setDataLength p v =>
    simp only [wellFormed, Bool.and_eq_true, decide_eq_true_eq, bne_iff_ne] at hwf
    exact exec_setDataLength_next s hwf.1 hwf.2
  case setType p t =>
    simp only [wellFormed, typeFits, Bool.and_eq_true, decide_eq_true_eq] at hwf
    exact ⟨_, by rw [exec_setType, setType_of_le hwf.1 hwf.2, deliverView_ok]⟩
  case setAcknum p v =>
    simp only [wellFormed, Bool.and_eq_true, decide_eq_true_eq] at hwf
    exact ⟨_, by rw [exec_setAcknum, setAcknum_of_le hwf.1 hwf.2, deliverView_ok]⟩
  case setMsgId p d =>
    simp only [wellFormed, Bool.and_eq_true, Bool.or_eq_true, decide_eq_true_eq, beq_iff_eq,
      Option.isNone_iff_eq_none] at hwf
    exact exec_setMsgId_next s (hwf.imp_right fun ⟨⟨_, hlen⟩, hle⟩ => ⟨hlen, hle⟩)
  case setPayload p d =>
    simp only [wellFormed, Bool.and_eq_true, decide_eq_true_eq, beq_iff_eq] at hwf
    obtain ⟨⟨⟨-, hpos⟩, hlen⟩, hle⟩ := hwf
    exact exec_setPayload_next s (Nat.ne_of_gt hpos) hlen hle
  case setChecksum p c =>
    simp only [wellFormed, Bool.and_eq_true, decide_eq_true_eq] at hwf
    exact ⟨_, by rw [exec_setChecksum, setChecksum_of_le c hwf.2, deliverView_ok]⟩
  case pkt k =>
    simp only [wellFormed, typeFits, Bool.and_eq_true, decide_eq_true_eq, bne_iff_ne] at hwf
    obtain ⟨⟨hpl, ht⟩, hack⟩ := hwf
    exact exec_pkt_next s hpl ht hack
  all_goals exact ⟨_, rfl⟩

/-! ### What a row that answers a next state has done

One relation for the whole table, with one lemma; the frames and the invariants below are read off it. -/

/-- The ways from a state to the next. -/
inductive Effect (i : Instr) (s : State) : State → Prop
  /-- A read, a pure function, a code or IDLE: an answer, and at most free values drawn (U4). -/
  | answer (r : Result) (draws : Nat) (hi : movesDecoder i = false) :
    Effect i s { s with result := r, freeDraws := draws }
  /-- NEW (R181). -/
  | renew (c : Option Config) (hi : i = .new c) : Effect i s (s.renew (c.getD s.cfg)).finishQuiet
  /-- RESET (R182). -/
  | reset (hi : i = .reset) : Effect i s s.resetFsm.finishQuiet
  /-- RESET_FSM (R199). -/
  | resetFsm (hi : i = .resetFsm) : Effect i s (s.resetFsm.finish .none)
  /-- DECODE, whatever row it is issued as (R84, R180). -/
  | decode (b : Byte) (hi : movesDecoder i = true) : Effect i s (finishOutcome (decodeByte b s))
  /-- FEED alone (R196). -/
  | feed (x : Byte) (hi : insideDecode i = true) (h : s.cursor < s.cfg.cap) : Effect i s ((s.store x).finish .ok)
  /-- FEED alone with the buffer full, and UNSTUFF alone: the de-framer's registers and a result (R111, R112, R196). -/
  | deframe (v : BitVec 8) (f : Bool) (r : Result) (hi : insideDecode i = true) :
    Effect i s (((s.setFrameOffset v).setPrevCodeFf f).finish r)
  /-- FEED_STREAM, or the bytes of a FRAME on the wire (R72, R83). -/
  | stream (bs : Bytes) (hi : i = .feedStream bs ∨ ∃ body, i = .frame body ∧ bs = body ++ [delimiter]) :
    Effect i s (streamOf bs s)

theorem Effect.of_finish {i : Instr} {s t : State} (hi : movesDecoder i = false) (h : ∃ v, t = s.finish v) :
    Effect i s t := by
  obtain ⟨v, rfl⟩ := h
  exact .answer v s.freeDraws hi

/-- A dispatch row that answers is the DECODE of its byte. -/
theorem Effect.of_runRow {i : Instr} {b : Byte} {sel : Bool} {rule : Byte → State → State × DecodeOutcome} {s t : State}
    (hi : movesDecoder i = true) (heq : b ≠ delimiter → sel = true → runRow b sel rule s = exec (.decode b) s)
    (h : runRow b sel rule s = .next t) :
    Effect i s t := by
  obtain ⟨hb, hsel, -⟩ := runRow_next h
  rw [heq hb hsel, exec_decode] at h
  cases h
  exact .decode b hi

theorem Effect.of_stateRow {i : Instr} (st : FsmState) {b : Byte} {s t : State}
    (hi : movesDecoder i = true) (h : exec (stateRow st b) s = .next t) : Effect i s t := by
  rw [exec_stateRow] at h
  refine .of_runRow hi (fun hb hsel => ?_) h
  obtain rfl : s.fsm = st := by simpa using hsel
  rw [← exec_stateRow, exec_stateRow_self s hb]

/-- An UNSTUFF variant that answers runs the step inside DECODE (R110). -/
theorem exec_unstuff_next {b : Byte} {s t : State} (h : exec (.unstuff b) s = .next t) :
    ∃ u x, unstuff b s = (u, x) ∧ t = u.finish (.reconstructed x) := by
  change execUnstuff b s = _ at h
  unfold execUnstuff at h
  split at h <;> [cases h; skip]
  split at h <;> [cases h; skip]
  rename_i hc
  cases h
  exact ⟨_, _, by rw [unstuff, if_neg hc], rfl⟩

theorem exec_unstuffFf_next {b : Byte} {s t : State} (h : exec (.unstuffFf b) s = .next t) :
    ∃ u x, unstuff b s = (u, x) ∧ t = u.finish (.reconstructed x) := by
  change execUnstuffFf b s = _ at h
  unfold execUnstuffFf at h
  split at h <;> [cases h; skip]
  split at h <;> [skip; cases h]
  rename_i hc
  cases h
  exact ⟨_, _, by rw [unstuff, if_pos hc], rfl⟩

theorem Effect.of_exec {i : Instr} {s t : State} (h : exec i s = .next t) : Effect i s t := by
  cases i
  case new c => cases h; exact .renew c rfl
  case reset => cases h; exact .reset rfl
  case resetFsm => cases h; exact .resetFsm rfl
  case idle => cases h; exact .answer s.result s.freeDraws rfl
  case decode b => cases h; exact .decode b rfl
  case delim => cases h; exact .decode delimiter rfl
  case decodeDelim =>
    rw [exec_of_delimiter (.inr (.inl rfl)), ← decodeByte_delimiter] at h
    cases h
    exact .decode delimiter rfl
  case decodeFrameOffset b => exact .of_stateRow .frameOffset rfl h
  case decodeHeaderB0 b => exact .of_stateRow .headerB0 rfl h
  case decodeHeaderB1 b => exact .of_stateRow .headerB1 rfl h
  case decodeHeaderB2 b => exact .of_stateRow .headerB2 rfl h
  case decodeMsgId b => exact .of_stateRow .msgId rfl h
  case decodeOffsetB0 b => exact .of_stateRow .offsetB0 rfl h
  case decodeOffsetB1 b => exact .of_stateRow .offsetB1 rfl h
  case decodePayload b => exact .of_stateRow .payload rfl h
  case decodeCrcB0 b => exact .of_stateRow .crcB0 rfl h
  case decodeCrcB1 b => exact .of_stateRow .crcB1 rfl h
  case decodeCodeAfterFf b => exact .of_runRow rfl (fun hb hsel => exec_decodeCodeAfterFf hb hsel) h
  case decodeFull b => exact .of_runRow rfl (fun hb hsel => exec_decodeFull hb hsel) h
  case feed x =>
    rcases Nat.lt_or_ge s.cursor s.cfg.cap with hlt | hge
    · rw [exec_feed_of_lt x hlt] at h
      cases h
      exact .feed x rfl hlt
    · rw [exec_feed_of_ge x hge] at h
      cases h
      exact .deframe s.frameOffset s.prevCodeFf _ rfl
  case unstuff b =>
    obtain ⟨u, r, hu, rfl⟩ := exec_unstuff_next h
    obtain ⟨v, f, rfl⟩ := eq_setPrevCodeFf_of_unstuff hu
    exact .deframe v f _ rfl
  case unstuffFf b =>
    obtain ⟨u, r, hu, rfl⟩ := exec_unstuffFf_next h
    obtain ⟨v, f, rfl⟩ := eq_setPrevCodeFf_of_unstuff hu
    exact .deframe v f _ rfl
  case feedStream bs => cases h; exact .stream bs (.inl rfl)
  case frame body => cases h; exact .stream _ (.inr ⟨body, rfl, rfl⟩)
  case validate p =>
    refine .of_finish rfl ?_
    cases hv : validate s.cfg.rejectUnknownType p with
    | none => rw [exec_validate_of_none hv] at h; cases h; exact ⟨_, rfl⟩
    | some e => rw [exec_validate_of_some hv] at h; cases h; exact ⟨_, rfl⟩
  case decodeInPlace e =>
    cases hb : blocks? e with
    | some bs => rw [exec_decodeInPlace_of_some hb] at h; cases h; exact .answer _ s.freeDraws rfl
    | none => rw [exec_decodeInPlace_of_none hb] at h; cases h; exact .answer _ (s.freeDraws + 1) rfl
  case getDataLength | getOffset | getType | getInternal | getIdLength | getResponse | getAcknum | msgId | payload |
      checksum | wireSize | computeChecksum | decodeBuf | pkt => exact .of_finish rfl (deliver_next h)
  case setDataLength | setOffset | setType | setInternal | setIdLength | setResponse | setAcknum |
      setMsgId | setPayload | setChecksum => exact .of_finish rfl (deliverView_next h)
  all_goals
    cases h
    exact .of_finish rfl ⟨_, rfl⟩

theorem movesDecoder_of_insideDecode {i : Instr} (h : insideDecode i = true) : movesDecoder i = true := by
  cases i
  case feed | unstuff | unstuffFf => rfl
  all_goals cases h

/-- A row that does not move the decoder only answers. -/
theorem Effect.eq_answer {i : Instr} {s t : State} (h : Effect i s t) (hi : movesDecoder i = false) :
    ∃ r n, t = { s with result := r, freeDraws := n } := by
  cases h with
  | answer r n => exact ⟨r, n, rfl⟩
  | renew c hc => subst hc; cases hi
  | reset hr => subst hr; cases hi
  | resetFsm hr => subst hr; cases hi
  | decode b hb => simp [hb] at hi
  | feed x hx => simp [movesDecoder_of_insideDecode hx] at hi
  | deframe v f r hx => simp [movesDecoder_of_insideDecode hx] at hi
  | stream bs hx => rcases hx with rfl | ⟨body, rfl, -⟩ <;> cases hi

/-- Settles O24: the relation's case for such a row. -/
theorem pureRowsChangeNothing : Obligations.PureRowsChangeNothing := by
  intro i s t hi h
  obtain ⟨r, n, rfl⟩ := (Effect.of_exec h).eq_answer hi
  refine ⟨rfl, fun _ => rfl, fun a ha => ?_⟩
  rw [State.rdData_of_lt ha]
  exact State.rdData_of_lt ha

end Sys2Proof.Machine
end

section
/-! PROOFS. What a DECODE does to the counters and to BUF, and streams of DECODEs (spec/43_decoder_fsm.md R180, R195,
R196; spec/30_encoding.md R83; spec/10_state.md R30 to R32). -/

namespace Sys2Proof.Machine

/-! ### Streams (R72, R83) -/

/-- Settles O23: `decodeBytes` is a DECODE and the rest, and the wire's rows run the stream of their bytes. -/
theorem streamIsOneDecodePerByte : Obligations.StreamIsOneDecodePerByte := by
  intro s
  refine ⟨rfl, fun b bs => ⟨_, _, (decodeByte b s).2, _, exec_decode b s, rfl, rfl, rfl, rfl⟩,
    fun body => ⟨_, rfl, rfl⟩, fun bs => ?_⟩
  rcases decodeWire_cases bs with ⟨rfl, hd⟩ | ⟨body, rfl, -, hd⟩ | ⟨-, hd⟩
  · exact ⟨_, _, _, hd, rfl, rfl, rfl⟩
  · exact ⟨_, _, _, hd, rfl, rfl, rfl⟩
  · exact ⟨_, _, _, hd, rfl, rfl, rfl⟩

/-! ### What the rules keep (R195, R196) -/

theorem satInc_bounds (c : Config) (n : Nat) : n ≤ satInc c n ∧ satInc c n ≤ n + 1 := by
  unfold satInc
  split <;> omega

/-- What is pending, the configuration and the free values stay; at most one counter takes a saturating step. -/
structure CountsOnce (s t : State) : Prop where
  cfg : t.cfg = s.cfg
  pending : t.pending = s.pending
  epoch : t.bufEpoch = s.bufEpoch
  counts : (t.validPktCount = s.validPktCount ∧ t.invalidPktCount = s.invalidPktCount) ∨
    (t.validPktCount = satInc s.cfg s.validPktCount ∧ t.invalidPktCount = s.invalidPktCount) ∨
    (t.validPktCount = s.validPktCount ∧ t.invalidPktCount = satInc s.cfg s.invalidPktCount)

/-- BUF stays, or takes one byte at the cursor when there is room. -/
def StoresAtCursor (s t : State) : Prop :=
  t.buf = s.buf ∨ s.cursor < s.cfg.cap ∧ ∃ x, t.buf = Memory.write s.buf s.cursor x

theorem CountsOnce.valid_le {s t : State} (h : CountsOnce s t) : s.validPktCount ≤ t.validPktCount := by
  have hv := satInc_bounds s.cfg s.validPktCount
  rcases h.counts with ⟨h, -⟩ | ⟨h, -⟩ | ⟨h, -⟩ <;> omega

theorem CountsOnce.invalid_le {s t : State} (h : CountsOnce s t) : s.invalidPktCount ≤ t.invalidPktCount := by
  have hi := satInc_bounds s.cfg s.invalidPktCount
  rcases h.counts with ⟨-, h⟩ | ⟨-, h⟩ | ⟨-, h⟩ <;> omega

theorem CountsOnce.sum_le {s t : State} (h : CountsOnce s t) :
    t.validPktCount + t.invalidPktCount ≤ s.validPktCount + s.invalidPktCount + 1 := by
  have hv := satInc_bounds s.cfg s.validPktCount
  have hi := satInc_bounds s.cfg s.invalidPktCount
  rcases h.counts with ⟨h, h'⟩ | ⟨h, h'⟩ | ⟨h, h'⟩ <;> omega

theorem StoresAtCursor.bufByte_eq {s t : State} (h : StoresAtCursor s t) (he : t.bufEpoch = s.bufEpoch) {a : Nat}
    (ha : a ≠ s.cursor ∨ s.cfg.cap ≤ s.cursor) : t.bufByte a = s.bufByte a := by
  rcases h with hb | ⟨hlt, x, hb⟩
  · exact State.bufByte_congr hb he a
  · have hne : a ≠ s.cursor := ha.resolve_right (not_le.mpr hlt)
    rw [State.bufByte, State.bufByte, hb, he, Memory.read?_write_other _ _ _ _ hne]

/-- What a rule does after its FEED: nothing to BUF. -/
theorem onFeed_effect {x : Byte} {s : State} {k : State → State × DecodeOutcome}
    (hk : ∀ u, CountsOnce u (k u).1 ∧ (k u).1.buf = u.buf) :
    CountsOnce s (onFeed x s k).1 ∧ StoresAtCursor s (onFeed x s k).1 := by
  rcases Nat.lt_or_ge s.cursor s.cfg.cap with hlt | hge
  · rw [onFeed_of_lt k hlt]
    obtain ⟨⟨hcfg, hpend, hepoch, hcounts⟩, hbuf⟩ := hk (s.store x)
    exact ⟨⟨hcfg, hpend, hepoch, hcounts⟩, .inr ⟨hlt, x, hbuf⟩⟩
  · rw [onFeed_of_ge k hge]
    exact ⟨⟨rfl, rfl, rfl, .inl ⟨rfl, rfl⟩⟩, .inl rfl⟩

theorem complete_effect (s : State) : CountsOnce s (complete s).1 ∧ (complete s).1.buf = s.buf := by
  unfold complete
  split
  · exact ⟨⟨rfl, rfl, rfl, .inr (.inl ⟨rfl, rfl⟩)⟩, rfl⟩
  · exact ⟨⟨rfl, rfl, rfl, .inr (.inr ⟨rfl, rfl⟩)⟩, rfl⟩

theorem inState_effect (st : FsmState) (x : Byte) (s : State) :
    CountsOnce s (inState st x s).1 ∧ StoresAtCursor s (inState st x s).1 := by
  cases st
  case frameOffset | offsetB0 | offsetB1 => exact ⟨⟨rfl, rfl, rfl, .inl ⟨rfl, rfl⟩⟩, .inl rfl⟩
  case msgId =>
    refine onFeed_effect fun u => ?_
    rw [chooseAfterId_eq_goto]
    exact ⟨⟨rfl, rfl, rfl, .inl ⟨rfl, rfl⟩⟩, rfl⟩
  case payload =>
    refine onFeed_effect fun u => ?_
    rw [chooseAfterPayload_eq_goto]
    exact ⟨⟨rfl, rfl, rfl, .inl ⟨rfl, rfl⟩⟩, rfl⟩
  case crcB1 => exact onFeed_effect complete_effect
  all_goals exact onFeed_effect fun u => ⟨⟨rfl, rfl, rfl, .inl ⟨rfl, rfl⟩⟩, rfl⟩

theorem decodeByte_effect (b : Byte) (s : State) :
    CountsOnce s (decodeByte b s).1 ∧ StoresAtCursor s (decodeByte b s).1 := by
  by_cases hb : b = delimiter
  · rw [hb, decodeByte_delimiter]
    exact ⟨⟨rfl, rfl, rfl, .inl ⟨rfl, rfl⟩⟩, .inl rfl⟩
  rw [decodeByte_of_ne hb]
  rcases hu : unstuff b s with ⟨u, _ | x⟩ <;> obtain ⟨v, f, rfl⟩ := eq_setPrevCodeFf_of_unstuff hu
  · rw [afterUnstuff_none hu]
    exact ⟨⟨rfl, rfl, rfl, .inl ⟨rfl, rfl⟩⟩, .inl rfl⟩
  · rw [afterUnstuff_some hu]
    obtain ⟨⟨hcfg, hpend, hepoch, hcounts⟩, hbuf⟩ := inState_effect s.fsm x ((s.setFrameOffset v).setPrevCodeFf f)
    exact ⟨⟨hcfg, hpend, hepoch, hcounts⟩, hbuf⟩

/-! ### Streams keep what every DECODE keeps -/

theorem decodeBytes_counters (bs : Bytes) (s : State) :
    (decodeBytes bs s).1.pending = s.pending ∧ (decodeBytes bs s).1.cfg = s.cfg ∧
      (decodeBytes bs s).1.bufEpoch = s.bufEpoch ∧ s.validPktCount ≤ (decodeBytes bs s).1.validPktCount ∧
      s.invalidPktCount ≤ (decodeBytes bs s).1.invalidPktCount := by
  induction bs generalizing s with
  | nil => exact ⟨rfl, rfl, rfl, Nat.le_refl _, Nat.le_refl _⟩
  | cons b bs ih =>
    obtain ⟨heff, -⟩ := decodeByte_effect b s
    obtain ⟨hpend, hcfg, hepoch, hv, hi⟩ := ih (finishOutcome (decodeByte b s))
    exact ⟨hpend.trans heff.pending, hcfg.trans heff.cfg, hepoch.trans heff.epoch, heff.valid_le.trans hv,
      heff.invalid_le.trans hi⟩

theorem decodeBytes_bufByte {bs : Bytes} {s : State} {a : Nat} (h : ∀ pre suf, bs = pre ++ suf → suf ≠ [] →
      (decodeBytes pre s).1.cursor ≠ a ∨ s.cfg.cap ≤ (decodeBytes pre s).1.cursor) :
    (decodeBytes bs s).1.bufByte a = s.bufByte a := by
  induction bs generalizing s with
  | nil => rfl
  | cons b bs ih =>
    obtain ⟨heff, hstore⟩ := decodeByte_effect b s
    have hfirst : (decodeByte b s).1.bufByte a = s.bufByte a :=
      hstore.bufByte_eq heff.epoch ((h [] (b :: bs) rfl (List.cons_ne_nil _ _)).imp_left Ne.symm)
    have hrest := ih (s := finishOutcome (decodeByte b s)) fun pre suf heq hne => by
      have hcfg : (finishOutcome (decodeByte b s)).cfg = s.cfg := heff.cfg
      rw [hcfg]
      exact h (b :: pre) suf (by rw [heq, List.cons_append]) hne
    exact hrest.trans hfirst

/-! ### The table (O25, O26) -/

/-- Settles O25, case by case of what a row can have done. -/
theorem countersNeverDecrease : Obligations.CountersNeverDecrease := by
  intro i s t h
  cases Effect.of_exec h with
  | answer | reset | resetFsm | feed | deframe =>
    exact ⟨rfl, fun _ => ⟨rfl, Nat.le_refl _, Nat.le_refl _, fun _ => Nat.le_succ _⟩⟩
  | renew c hi => exact ⟨rfl, fun hne => absurd hi (hne c)⟩
  | decode b =>
    obtain ⟨heff, -⟩ := decodeByte_effect b s
    exact ⟨heff.pending, fun _ => ⟨heff.cfg, heff.valid_le, heff.invalid_le, fun _ => heff.sum_le⟩⟩
  | stream bs hi =>
    obtain ⟨hpend, hcfg, -, hv, hinv⟩ := decodeBytes_counters bs s
    refine ⟨hpend, fun _ => ⟨hcfg, hv, hinv, fun hno => ?_⟩⟩
    rcases hi with hi | ⟨body, hi, -⟩
    · exact absurd hi (hno bs).1
    · exact absurd hi (hno body).2

/-- Settles O26: one row by the same cases, a stream by its DECODEs. -/
theorem storesOnlyAtCursors : Obligations.StoresOnlyAtCursors := by
  intro s t
  refine ⟨fun i hnew hstream h a ha => ?_, fun i bs hi h a hpre => ?_⟩
  · cases Effect.of_exec h with
    | answer | reset | resetFsm | deframe => rfl
    | feed x _ hlt => exact State.bufByte_store_other s x (ha.resolve_right (not_le.mpr hlt))
    | renew c hi => exact absurd hi (hnew c)
    | decode b =>
      obtain ⟨heff, hstore⟩ := decodeByte_effect b s
      exact hstore.bufByte_eq heff.epoch ha
    | stream bs hi =>
      rcases hi with hi | ⟨body, hi, -⟩
      · exact absurd hi (hstream bs).1
      · exact absurd hi (hstream body).2
  · have ht : t = streamOf bs s := by
      rcases hi with rfl | ⟨body, rfl, rfl⟩
      · cases h; rfl
      · cases h; rfl
    rw [ht]
    exact decodeBytes_bufByte hpre

end Sys2Proof.Machine
end

section
/-! PROOFS. The invariants of the decoder (spec/10_state.md R34): that they hold at reset, that every step keeps them,
and what they say of the outcomes of DECODE (R173). -/

namespace Sys2Proof.Machine

/-! ### The invariant in two parts

What concerns the frame being received holds after RESET_FSM in any state and is kept by every DECODE; the bounds on BUF
and on the counters are kept beside it. -/

/-- The part of R34 about the frame being received. -/
structure Framed (s : State) : Prop where
  place : s.inPlace
  counting : s.fsm ≠ .frameOffset → 1 ≤ s.frameOffset.toNat
  cursor_le : s.cursor ≤ s.cfg.cap
  header : s.headerAgrees
  written : ∀ a, a < s.cursor → (Memory.read? s.buf a).isSome
  noFfFlag : s.cfg.ffBlockException = false → s.prevCodeFf = false

/-- The bounds of BUF and of the counters (R30 to R32). -/
structure Bounded (s : State) : Prop where
  inside : ∀ a, (Memory.read? s.buf a).isSome → a < s.cfg.cap
  canonical : Memory.wf s.buf = true
  valid_le : s.validPktCount ≤ counterMax s.cfg
  invalid_le : s.invalidPktCount ≤ counterMax s.cfg

theorem inv_iff (s : State) : Inv s ↔ Framed s ∧ Bounded s :=
  ⟨fun h => ⟨⟨h.place, h.counting, h.cursor_le, h.header, h.written, h.noFfFlag⟩,
    ⟨h.inside, h.canonical, h.valid_le, h.invalid_le⟩⟩,
  fun ⟨h, hb⟩ => ⟨h.place, h.counting, h.cursor_le, h.header, h.written, hb.inside, hb.canonical, hb.valid_le,
    hb.invalid_le, h.noFfFlag⟩⟩

/-- A machine waiting for a frame (R34 item 1). -/
theorem Framed.of_idle {s : State} (hst : s.fsm = .frameOffset) (hz : s.workingZero) : Framed s := by
  obtain ⟨hfo, hcur, hdl, hoff, hidl, hidc, hpc, hff⟩ := id hz
  refine ⟨by rw [State.inPlace, hst]; exact hz, fun hne => absurd hst hne, by omega,
    ⟨fun h => by omega, fun h => by omega, fun h => by omega⟩, fun a ha => by omega, fun _ => hff⟩

theorem framed_resetFsm (s : State) : Framed s.resetFsm :=
  .of_idle rfl ⟨rfl, rfl, rfl, rfl, rfl, rfl, rfl, rfl⟩

/-- NEW's state: nothing stored, both counters 0. -/
theorem Bounded.of_empty {s : State} (hbuf : s.buf = []) (hv : s.validPktCount = 0) (hi : s.invalidPktCount = 0) :
    Bounded s := by
  refine ⟨fun a ha => ?_, by rw [hbuf]; rfl, by omega, by omega⟩
  rw [hbuf] at ha
  cases ha

/-- Settles O27: the reset state waits for a frame, and BUF and the counters are empty. -/
theorem invariantAtReset : Obligations.InvariantAtReset := by
  have hz : State.reset.workingZero := ⟨rfl, rfl, rfl, rfl, rfl, rfl, rfl, rfl⟩
  exact ⟨rfl, hz, rfl, rfl, fun _ => rfl, (inv_iff _).mpr ⟨.of_idle rfl hz, .of_empty rfl rfl rfl⟩,
    fun q hq => absurd hq List.not_mem_nil⟩

/-! ### DECODE keeps the bounds -/

theorem satInc_le_counterMax {c : Config} {n : Nat} (h : n ≤ counterMax c) : satInc c n ≤ counterMax c := by
  unfold satInc
  split <;> omega

theorem Bounded.step {s t : State} (h : Bounded s) (hcount : CountsOnce s t) (hstore : StoresAtCursor s t) :
    Bounded t := by
  have hv := satInc_le_counterMax h.valid_le
  have hi := satInc_le_counterMax h.invalid_le
  have hvalid := h.valid_le
  have hinvalid := h.invalid_le
  refine ⟨fun a ha => ?_, ?_, ?_, ?_⟩
  · rw [hcount.cfg]
    rcases hstore with hb | ⟨hlt, x, hb⟩
    · rw [hb] at ha
      exact h.inside a ha
    · by_cases hne : a = s.cursor
      · rwa [hne]
      · rw [hb, Memory.read?_write_other _ _ _ _ hne] at ha
        exact h.inside a ha
  · rcases hstore with hb | ⟨_, x, hb⟩
    · rw [hb]
      exact h.canonical
    · rw [hb]
      exact Memory.write_wf h.canonical _ _
  · rw [hcount.cfg]
    rcases hcount.counts with ⟨h', -⟩ | ⟨h', -⟩ | ⟨h', -⟩ <;> omega
  · rw [hcount.cfg]
    rcases hcount.counts with ⟨-, h'⟩ | ⟨-, h'⟩ | ⟨-, h'⟩ <;> omega

/-! ### UNSTUFF inside a frame -/

/-- UNSTUFF leaves a countdown of at least 1, and its flag clear where it does not exist (R22, R29). -/
theorem unstuff_writes {b : Byte} {x : Option Byte} {s u : State} (hb : b ≠ delimiter)
    (hff : s.cfg.ffBlockException = false → s.prevCodeFf = false) (hu : unstuff b s = (u, x)) :
    ∃ v f, u = (s.setFrameOffset v).setPrevCodeFf f ∧ 1 ≤ v.toNat ∧ (s.cfg.ffBlockException = false → f = false) := by
  have hpos : 1 ≤ b.toNat := by
    rcases Nat.eq_zero_or_pos b.toNat with h0 | h0
    · exact absurd (BitVec.eq_of_toNat_eq h0) hb
    · exact h0
  rcases unstuff_cases b s with ⟨hlt, h⟩ | ⟨_, _, h⟩ | ⟨_, hc, _, h⟩ | ⟨_, hc, _, h⟩ <;>
    obtain rfl := (Prod.ext_iff.mp (h.symm.trans hu)).1
  · exact ⟨_, s.prevCodeFf, rfl, by rw [toNat_sub_one hlt]; omega, hff⟩
  · exact ⟨b, s.prevCodeFf, rfl, hpos, hff⟩
  · exact ⟨b, _, rfl, hpos, fun h => by simp [hc] at h⟩
  · exact ⟨b, _, rfl, hpos, fun h => by simp [hc] at h⟩

/-- Outside FrameOffset the place in the frame does not depend on the de-framer's registers. -/
theorem inPlace_deframe {s : State} (hst : s.fsm ≠ .frameOffset) (v : BitVec 8) (f : Bool) :
    ((s.setFrameOffset v).setPrevCodeFf f).inPlace ↔ s.inPlace := by
  unfold State.inPlace
  cases h : s.fsm
  case frameOffset => exact absurd h hst
  all_goals simp only [State.setPrevCodeFf_fsm, State.setFrameOffset_fsm, h]; exact Iff.rfl

theorem Framed.deframe {s : State} (h : Framed s) (hst : s.fsm ≠ .frameOffset) {v : BitVec 8} {f : Bool}
    (hv : 1 ≤ v.toNat) (hf : s.cfg.ffBlockException = false → f = false) :
    Framed ((s.setFrameOffset v).setPrevCodeFf f) :=
  ⟨(inPlace_deframe hst v f).mpr h.place, fun _ => hv, h.cursor_le, h.header, h.written, hf⟩

/-! ### The rules inside a frame -/

/-- What every storing rule but the last does beside its latches and its next state. -/
structure StoresByte (x : Byte) (s t : State) : Prop where
  cfg : t.cfg = s.cfg
  cursor : t.cursor = s.cursor + 1
  buf : t.buf = Memory.write s.buf s.cursor x
  epoch : t.bufEpoch = s.bufEpoch
  frameOffset : t.frameOffset = s.frameOffset
  prevCodeFf : t.prevCodeFf = s.prevCodeFf

section
variable {x : Byte} {s t : State} (hs : StoresByte x s t)
include hs

theorem StoresByte.bufByte_cursor : t.bufByte s.cursor = x := by
  rw [State.bufByte, hs.buf, Memory.read?_write_same, Option.getD_some]

theorem StoresByte.bufByte_of_lt {a : Nat} (ha : a < s.cursor) : t.bufByte a = s.bufByte a := by
  rw [State.bufByte, State.bufByte, hs.buf, hs.epoch, Memory.read?_write_other _ _ _ _ (Nat.ne_of_lt ha)]

theorem Framed.storesByte (h : Framed s) (hst : s.fsm ≠ .frameOffset) (hlt : s.cursor < s.cfg.cap) (hplace : t.inPlace)
    (hheader : t.headerAgrees) : Framed t := by
  refine ⟨hplace, fun _ => ?_, ?_, hheader, fun a ha => ?_, fun hc => ?_⟩
  · rw [hs.frameOffset]
    exact h.counting hst
  · rw [hs.cursor, hs.cfg]
    exact hlt
  · rw [hs.buf]
    by_cases hne : a = s.cursor
    · rw [hne, Memory.read?_write_same]
      rfl
    · rw [Memory.read?_write_other _ _ _ _ hne]
      exact h.written a (by have := hs.cursor; omega)
  · rw [hs.prevCodeFf]
    exact h.noFfFlag (hs.cfg ▸ hc)

/-- Past the header a store leaves the header bytes and their latches alone (R34 item 6). -/
theorem StoresByte.headerAgrees (h : s.headerAgrees) (hcur : 3 ≤ s.cursor) (hdl : t.dataLength = s.dataLength)
    (hoff : t.offsetFlag = s.offsetFlag) (hidl : t.idLength = s.idLength) : t.headerAgrees := by
  obtain ⟨h0, h1, h2⟩ := h
  have hb (a : Nat) (ha : a < 3) : t.bufByte a = s.bufByte a := hs.bufByte_of_lt (by omega)
  rw [State.headerAgrees, hdl, hoff, hidl, hb 0 (by decide), hb 1 (by decide), hb 2 (by decide)]
  exact ⟨fun _ => h0 (by omega), fun _ => h1 (by omega), fun _ => h2 hcur⟩

end

/-- The low byte of a `data_length` put together from two parts (R24, R77). -/
theorem extractLsb'_append_byte (hi : BitVec 2) (lo : Byte) : (hi ++ lo).extractLsb' 0 8 = lo := by
  apply BitVec.eq_of_toNat_eq
  have hlo := lo.isLt
  rw [BitVec.extractLsb'_toNat, toNat_append_byte, Nat.shiftRight_zero]
  omega

/-- A count below its top takes a step without wrapping (R27, R28). -/
theorem toNat_add_one {w : Nat} {v : BitVec w} {m : Nat} (h : v.toNat < m) (hm : m < 2 ^ w) :
    (v + 1).toNat = v.toNat + 1 := by
  have h1 : (1 : BitVec w).toNat = 1 := Nat.mod_eq_of_lt (show 1 < 2 ^ w by omega)
  rw [BitVec.toNat_add, h1, Nat.mod_eq_of_lt (by omega)]

/-- The state after the id: what R34 item 4 asks of it once the last id byte is counted. -/
theorem inPlace_payloadOrCrc {s : State} (hst : s.fsm = payloadOrCrc s) (hcur : s.cursor = 3 + s.idCount.toNat)
    (hid : s.idCount.toNat = s.idBytes) (hpc : s.payloadCount = 0) : s.inPlace := by
  have hpc' : s.payloadCount.toNat = 0 := by rw [hpc]; rfl
  by_cases hdl : 0 < s.dataLength.toNat
  · rw [payloadOrCrc, if_pos hdl] at hst
    rw [State.inPlace, hst]
    exact ⟨by omega, hid, by omega⟩
  · rw [payloadOrCrc, if_neg hdl] at hst
    rw [State.inPlace, hst]
    exact ⟨by omega, hid, by omega⟩

section
variable {x : Byte} {s : State} (h : Framed s)
include h

theorem Framed.inOffsetB0 (hst : s.fsm = .offsetB0) : Framed (inOffsetB0 x s).1 := by
  have hplace := h.place
  rw [State.inPlace, hst] at hplace
  exact ⟨hplace, fun _ => h.counting (by simp [hst]), h.cursor_le, h.header, h.written, h.noFfFlag⟩

theorem Framed.inOffsetB1 (hst : s.fsm = .offsetB1) : Framed (inOffsetB1 x s).1 := by
  have hplace := h.place
  rw [State.inPlace, hst] at hplace
  obtain ⟨hcur, hid, -, hpc⟩ := hplace
  exact ⟨inPlace_payloadOrCrc (s := s.goto (payloadOrCrc s)) rfl hcur hid hpc, fun _ => h.counting (by simp [hst]),
    h.cursor_le, h.header, h.written, h.noFfFlag⟩

variable (hlt : s.cursor < s.cfg.cap)
include hlt

theorem Framed.inHeaderB0 (hst : s.fsm = .headerB0) : Framed (inHeaderB0 x s).1 := by
  have hplace := h.place
  rw [State.inPlace, hst] at hplace
  obtain ⟨hcur, hdl, hoff, hidl, hidc, hpc⟩ := hplace
  rw [inHeaderB0_of_lt hlt]
  dsimp only
  have hs : StoresByte x s (((s.store x).latchLengthLow x).goto .headerB1) := ⟨rfl, rfl, rfl, rfl, rfl, rfl⟩
  have hb := hs.bufByte_cursor
  have hc := hs.cursor
  rw [hcur] at hb hc
  have hdl' : (s.dataLength.extractLsb' 8 2 ++ x).toNat < 256 := by
    have hx := x.isLt
    rw [hdl, toNat_append_byte]
    simpa using hx
  refine h.storesByte hs (by simp [hst]) hlt ⟨hc, hdl', hoff, hidl, hidc, hpc⟩
    ⟨fun _ => ?_, fun h2 => by omega, fun h3 => by omega⟩
  rw [hb]
  exact extractLsb'_append_byte _ x

theorem Framed.inHeaderB1 (hst : s.fsm = .headerB1) : Framed (inHeaderB1 x s).1 := by
  have hplace := h.place
  rw [State.inPlace, hst] at hplace
  obtain ⟨hcur, -, -, hidl, hidc, hpc⟩ := hplace
  rw [inHeaderB1_of_lt hlt]
  dsimp only
  have hs : StoresByte x s (((s.store x).latchLengthHigh x).goto .headerB2) := ⟨rfl, rfl, rfl, rfl, rfl, rfl⟩
  have hb1 := hs.bufByte_cursor
  have hb0 := hs.bufByte_of_lt (a := 0) (by omega)
  have hc := hs.cursor
  rw [hcur] at hb1 hc
  have hlow := h.header.1 (by omega)
  refine h.storesByte hs (by simp [hst]) hlt ⟨hc, hidl, hidc, hpc⟩ ⟨fun _ => ?_, fun _ => ?_, fun h3 => by omega⟩
  · rw [hb0, ← hlow]
    exact extractLsb'_append_byte _ _
  · rw [hb0, hb1, ← hlow]
    exact ⟨rfl, rfl⟩

theorem Framed.inHeaderB2 (hst : s.fsm = .headerB2) : Framed (inHeaderB2 x s).1 := by
  have hplace := h.place
  rw [State.inPlace, hst] at hplace
  obtain ⟨hcur, hidl, hidc, hpc⟩ := hplace
  rw [inHeaderB2_of_lt hlt]
  dsimp only
  have hs : StoresByte x s (((s.store x).latchIdLength x).goto .msgId) := ⟨rfl, rfl, rfl, rfl, rfl, rfl⟩
  have hb2 := hs.bufByte_cursor
  have hb0 := hs.bufByte_of_lt (a := 0) (by omega)
  have hb1 := hs.bufByte_of_lt (a := 1) (by omega)
  have hc := hs.cursor
  rw [hcur] at hb2 hc
  obtain ⟨hlow, hhigh, -⟩ := h.header
  refine h.storesByte hs (by simp [hst]) hlt ⟨hc, ?_, hpc⟩ ⟨fun _ => ?_, fun _ => ?_, fun _ => ?_⟩
  · exact lt_of_lt_of_le Nat.zero_lt_one (Nat.le_max_right _ _)
  · rw [hb0]
    exact hlow (by omega)
  · rw [hb0, hb1]
    exact hhigh (by omega)
  · rw [hb2]
    rfl

theorem Framed.inMsgId (hst : s.fsm = .msgId) : Framed (inMsgId x s).1 := by
  have hplace := h.place
  rw [State.inPlace, hst] at hplace
  obtain ⟨hcur, hid, hpc⟩ := hplace
  have hidl := s.idLength.isLt
  have hcount : (s.idCount + 1).toNat = s.idCount.toNat + 1 :=
    toNat_add_one hid (by rw [State.idBytes]; omega)
  rw [inMsgId_of_lt hlt]
  dsimp only
  refine h.storesByte (s := s) (x := x) ⟨rfl, rfl, rfl, rfl, rfl, rfl⟩ (by simp [hst]) hlt ?_
    (StoresByte.headerAgrees (s := s) (x := x) ⟨rfl, rfl, rfl, rfl, rfl, rfl⟩ h.header (by omega) rfl rfl rfl)
  have hcur' : s.cursor + 1 = 3 + (s.idCount + 1).toNat := by omega
  by_cases hmore : (s.idCount + 1).toNat < s.idLength.toNat
  · rw [if_pos hmore, hst]
    exact ⟨hcur', lt_of_lt_of_le hmore (Nat.le_max_left _ _), hpc⟩
  have hall : (s.idCount + 1).toNat = s.idBytes := by
    rw [State.idBytes] at hid ⊢
    omega
  rw [if_neg hmore, afterId]
  by_cases hoff : s.offsetFlag = true
  · rw [if_pos hoff]
    exact ⟨hcur', hall, hoff, hpc⟩
  · rw [if_neg hoff]
    exact inPlace_payloadOrCrc (s := (s.store x).countId.goto (payloadOrCrc s)) rfl hcur' hall hpc

theorem Framed.inPayload (hst : s.fsm = .payload) : Framed (inPayload x s).1 := by
  have hplace := h.place
  rw [State.inPlace, hst] at hplace
  obtain ⟨hcur, hid, hpc⟩ := hplace
  have hcount : (s.payloadCount + 1).toNat = s.payloadCount.toNat + 1 := toNat_add_one hpc s.dataLength.isLt
  rw [inPayload_of_lt hlt]
  dsimp only
  refine h.storesByte (s := s) (x := x) ⟨rfl, rfl, rfl, rfl, rfl, rfl⟩ (by simp [hst]) hlt ?_
    (StoresByte.headerAgrees (s := s) (x := x) ⟨rfl, rfl, rfl, rfl, rfl, rfl⟩ h.header (by omega) rfl rfl rfl)
  by_cases hmore : (s.payloadCount + 1).toNat < s.dataLength.toNat
  · rw [if_pos hmore, hst]
    refine ⟨?_, hid, hmore⟩
    show s.cursor + 1 = 3 + s.idCount.toNat + (s.payloadCount + 1).toNat
    omega
  · rw [if_neg hmore]
    refine ⟨?_, hid, ?_⟩
    · show s.cursor + 1 = 3 + s.idCount.toNat + (s.payloadCount + 1).toNat
      omega
    · show (s.payloadCount + 1).toNat = s.dataLength.toNat
      omega

theorem Framed.inCrcB0 (hst : s.fsm = .crcB0) : Framed (inCrcB0 x s).1 := by
  have hplace := h.place
  rw [State.inPlace, hst] at hplace
  obtain ⟨hcur, hid, hpc⟩ := hplace
  rw [inCrcB0_of_lt hlt]
  dsimp only
  refine h.storesByte (s := s) (x := x) ⟨rfl, rfl, rfl, rfl, rfl, rfl⟩ (by simp [hst]) hlt ⟨?_, hid, hpc⟩
    (StoresByte.headerAgrees (s := s) (x := x) ⟨rfl, rfl, rfl, rfl, rfl, rfl⟩ h.header (by omega) rfl rfl rfl)
  show s.cursor + 1 = 4 + s.idCount.toNat + s.payloadCount.toNat
  omega

end

theorem framed_complete (s : State) : Framed (complete s).1 := by
  unfold complete
  split
  all_goals exact .of_idle rfl ⟨rfl, rfl, rfl, rfl, rfl, rfl, rfl, rfl⟩

/-- The rule of the machine's state inside a frame; with the buffer full a storing rule changes nothing. -/
theorem Framed.inState {s : State} (h : Framed s) (hst : s.fsm ≠ .frameOffset) (x : Byte) :
    Framed (inState s.fsm x s).1 := by
  rcases Nat.lt_or_ge s.cursor s.cfg.cap with hlt | hge
  · cases hfsm : s.fsm
    case frameOffset => exact absurd hfsm hst
    case headerB0 => exact h.inHeaderB0 hlt hfsm
    case headerB1 => exact h.inHeaderB1 hlt hfsm
    case headerB2 => exact h.inHeaderB2 hlt hfsm
    case msgId => exact h.inMsgId hlt hfsm
    case offsetB0 => exact h.inOffsetB0 (x := x) hfsm
    case offsetB1 => exact h.inOffsetB1 (x := x) hfsm
    case payload => exact h.inPayload hlt hfsm
    case crcB0 => exact h.inCrcB0 hlt hfsm
    case crcB1 =>
      rw [Machine.inState, inCrcB1_of_lt hlt]
      exact framed_complete _
  · cases hstore : storingState s.fsm with
    | true => rw [inState_of_full hstore hge]; exact h
    | false =>
      cases hfsm : s.fsm
      case frameOffset => exact absurd hfsm hst
      case offsetB0 => exact h.inOffsetB0 (x := x) hfsm
      case offsetB1 => exact h.inOffsetB1 (x := x) hfsm
      all_goals simp [hfsm, storingState] at hstore

/-! ### DECODE and the table -/

/-- The first byte of a frame (R183): in FrameOffset every register is still 0 but what UNSTUFF wrote. -/
theorem Framed.inFrameOffset {s : State} (h : Framed s) (hst : s.fsm = .frameOffset) {v : BitVec 8} {f : Bool}
    (hv : 1 ≤ v.toNat) (hf : s.cfg.ffBlockException = false → f = false) :
    Framed (((s.setFrameOffset v).setPrevCodeFf f).goto .headerB0) := by
  have hplace := h.place
  rw [State.inPlace, hst] at hplace
  obtain ⟨-, hcur, hdl, hoff, hidl, hidc, hpc, -⟩ := hplace
  exact ⟨⟨hcur, hdl, hoff, hidl, hidc, hpc⟩, fun _ => hv, h.cursor_le, h.header, h.written, hf⟩

/-- In FrameOffset the flag of the de-framer is clear, and a byte is always handed on (R112, R197). -/
theorem Framed.prevCodeFf_of_idle {s : State} (h : Framed s) (hst : s.fsm = .frameOffset) : s.prevCodeFf = false := by
  have hplace := h.place
  rw [State.inPlace, hst] at hplace
  obtain ⟨-, -, -, -, -, -, -, hff⟩ := hplace
  exact hff

theorem Framed.decodeByte {s : State} (h : Framed s) (b : Byte) : Framed (decodeByte b s).1 := by
  by_cases hb : b = delimiter
  · rw [hb, decodeByte_delimiter]
    exact framed_resetFsm s
  rw [decodeByte_of_ne hb]
  rcases hu : unstuff b s with ⟨u, _ | x⟩ <;> obtain ⟨v, f, rfl, hv, hf⟩ := unstuff_writes hb h.noFfFlag hu
  · rw [afterUnstuff_none hu]
    refine h.deframe (fun hst => ?_) hv hf
    have hff := h.prevCodeFf_of_idle hst
    rcases unstuff_cases b s with ⟨_, h'⟩ | ⟨_, _, h'⟩ | ⟨_, _, _, h'⟩ | ⟨_, _, hp, _⟩
    case inr.inr.inr => simp [hff] at hp
    all_goals cases h'.symm.trans hu
  · rw [afterUnstuff_some hu]
    by_cases hst : s.fsm = .frameOffset
    · rw [hst]
      exact h.inFrameOffset hst hv hf
    · exact (h.deframe hst hv hf).inState hst x

theorem Inv.decodeByte {s : State} (h : Inv s) (b : Byte) : Inv (finishOutcome (decodeByte b s)) := by
  obtain ⟨hframed, hbounded⟩ := (inv_iff s).mp h
  obtain ⟨hcount, hstore⟩ := decodeByte_effect b s
  obtain ⟨hplace, hcounting, hcur, hheader, hwritten, hff⟩ := hframed.decodeByte b
  obtain ⟨hinside, hcanonical, hvalid, hinvalid⟩ := hbounded.step hcount hstore
  exact ⟨hplace, hcounting, hcur, hheader, hwritten, hinside, hcanonical, hvalid, hinvalid, hff⟩

theorem Inv.decodeBytes {s : State} (h : Inv s) (bs : Bytes) : Inv (decodeBytes bs s).1 := by
  induction bs generalizing s with
  | nil => exact h
  | cons b bs ih => exact ih (h.decodeByte b)

/-- Every row but the micro-operations alone keeps the invariant. -/
theorem Inv.effect {i : Instr} {s t : State} (h : Inv s) (hi : insideDecode i = false) (he : Effect i s t) : Inv t := by
  obtain ⟨hplace, hcounting, hcur, hheader, hwritten, hinside, hcanonical, hvalid, hinvalid, hff⟩ := id h
  have hreset : Inv s.resetFsm :=
    (inv_iff _).mpr ⟨framed_resetFsm s, ⟨hinside, hcanonical, hvalid, hinvalid⟩⟩
  cases he with
  | answer => exact ⟨hplace, hcounting, hcur, hheader, hwritten, hinside, hcanonical, hvalid, hinvalid, hff⟩
  | renew c =>
    exact (inv_iff _).mpr ⟨.of_idle rfl ⟨rfl, rfl, rfl, rfl, rfl, rfl, rfl, rfl⟩, .of_empty rfl rfl rfl⟩
  | reset | resetFsm =>
    exact ⟨hreset.place, hreset.counting, hreset.cursor_le, hreset.header, hreset.written, hinside, hcanonical, hvalid,
      hinvalid, hreset.noFfFlag⟩
  | decode b => exact h.decodeByte b
  | feed x hx => simp [hx] at hi
  | deframe v f r hx => simp [hx] at hi
  | stream bs =>
    obtain ⟨hplace, hcounting, hcur, hheader, hwritten, hinside, hcanonical, hvalid, hinvalid, hff⟩ := h.decodeBytes bs
    exact ⟨hplace, hcounting, hcur, hheader, hwritten, hinside, hcanonical, hvalid, hinvalid, hff⟩

/-- No word decodes to a micro-operation: they have no encoding (R70). -/
theorem insideDecode_of_decode {f : Format} {bs : Bytes} {i : Instr} (h : decode f bs = .ok i) :
    insideDecode i = false := by
  obtain ⟨-, _, henc, -⟩ := decodedWordsAreEncodings f bs i h
  cases i
  case feed | unstuff | unstuffFf => cases henc
  all_goals rfl

/-- Settles O28: a step runs one row, which is no micro-operation, on a state that meets the invariant. -/
theorem stepKeepsInvariant : Obligations.StepKeepsInvariant := by
  intro s t h hops hstep
  rcases step_next hstep with ⟨-, rfl⟩ | ⟨q, rest, i, hp, hfetch, hexec⟩
  · exact ⟨h, hops⟩
  have hq : q.betweenOperations = true := hops q (by rw [hp]; exact List.mem_cons_self)
  have hi : insideDecode i = false := by
    cases q with
    | word f bs => exact insideDecode_of_decode hfetch
    | op j =>
      obtain rfl : j = i := Except.ok.inj hfetch
      simpa [Issue.betweenOperations] using hq
  have hdeq : Inv (s.dequeue rest) :=
    ⟨h.place, h.counting, h.cursor_le, h.header, h.written, h.inside, h.canonical, h.valid_le, h.invalid_le, h.noFfFlag⟩
  have hpend : t.pending = rest := (countersNeverDecrease i _ t hexec).1
  refine ⟨hdeq.effect hi (Effect.of_exec hexec), fun q' hq' => hops q' ?_⟩
  rw [hpend] at hq'
  rw [hp]
  exact List.mem_cons_of_mem q hq'

end Sys2Proof.Machine
end

section
/-! PROOFS. What comes out of DECODE (spec/42_crc_validator.md R173, spec/10_state.md R34 item 5): the span that is
validated, its length and its errors. -/

namespace Sys2Proof.Machine

/-! ### Where an outcome other than NONE comes from -/

/-- A rule's outcome is NONE, or FEED fails, or the frame is complete. -/
theorem inState_outcome (st : FsmState) (x : Byte) (s : State) : (inState st x s).2 = .none ∨
    (s.cfg.cap ≤ s.cursor ∧ (inState st x s).2 = .error .insufficientBufferSize) ∨
    (st = .crcB1 ∧ s.cursor < s.cfg.cap ∧ inState st x s = complete (s.store x)) := by
  rcases Nat.lt_or_ge s.cursor s.cfg.cap with hlt | hge
  · cases st
    case frameOffset | offsetB0 | offsetB1 => exact .inl rfl
    case headerB0 => exact .inl (congrArg Prod.snd (inHeaderB0_of_lt hlt))
    case headerB1 => exact .inl (congrArg Prod.snd (inHeaderB1_of_lt hlt))
    case headerB2 => exact .inl (congrArg Prod.snd (inHeaderB2_of_lt hlt))
    case msgId => exact .inl (congrArg Prod.snd (inMsgId_of_lt hlt))
    case payload => exact .inl (congrArg Prod.snd (inPayload_of_lt hlt))
    case crcB0 => exact .inl (congrArg Prod.snd (inCrcB0_of_lt hlt))
    case crcB1 => exact .inr (.inr ⟨rfl, hlt, inCrcB1_of_lt hlt⟩)
  · cases hst : storingState st with
    | true => exact .inr (.inl ⟨hge, congrArg Prod.snd (inState_of_full hst hge)⟩)
    | false =>
      cases st
      case frameOffset | offsetB0 | offsetB1 => exact .inl rfl
      all_goals cases hst

theorem decodeByte_outcome {s : State} (h : Framed s) (b : Byte) : (decodeByte b s).2 = .none ∨
    (s.cfg.cap ≤ s.cursor ∧ (decodeByte b s).2 = .error .insufficientBufferSize) ∨
    (∃ v f x, Framed ((s.setFrameOffset v).setPrevCodeFf f) ∧ s.fsm = .crcB1 ∧ s.cursor < s.cfg.cap ∧
      decodeByte b s = complete (((s.setFrameOffset v).setPrevCodeFf f).store x)) := by
  by_cases hb : b = delimiter
  · rw [hb, decodeByte_delimiter]
    exact .inl rfl
  rw [decodeByte_of_ne hb]
  rcases hu : unstuff b s with ⟨u, _ | x⟩
  · rw [afterUnstuff_none hu]
    exact .inl rfl
  obtain ⟨v, f, rfl, hv, hf⟩ := unstuff_writes hb h.noFfFlag hu
  rw [afterUnstuff_some hu]
  refine (inState_outcome s.fsm x _).imp_right (Or.imp_right ?_)
  rintro ⟨hst, hlt, heq⟩
  exact ⟨v, f, x, h.deframe (by simp [hst]) hv hf, hst, hlt, heq⟩

/-! ### The span of a complete frame (R34 item 5, R195) -/

theorem byteAt_span (s : State) {n a : Nat} (h : a < n) : byteAt (s.span n) a = s.bufByte a := by
  simp [byteAt, State.span, h]

/-- The span that completion validates: the bytes stored before and the last one. -/
def State.completed (s : State) (x : Byte) : Bytes := (s.store x).span (s.cursor + 1)

@[simp] theorem State.length_completed (s : State) (x : Byte) : (s.completed x).length = s.cursor + 1 :=
  State.length_span _ _

theorem State.byteAt_completed (s : State) (x : Byte) {a : Nat} (h : a < s.cursor) :
    byteAt (s.completed x) a = s.bufByte a := by
  rw [State.completed, byteAt_span _ (Nat.lt_succ_of_lt h), State.bufByte_store_other s x (Nat.ne_of_lt h)]

theorem complete_store_of_none {s : State} {x : Byte}
    (hv : validate s.cfg.rejectUnknownType (s.completed x) = none) :
    complete (s.store x) = ((s.store x).resetFsm.countValid, .packet (s.cursor + 1) (s.completed x)) := by
  rw [complete, State.store_cfg, State.store_cursor, ← State.completed, hv]

theorem complete_store_of_some {s : State} {x : Byte} {e : Err}
    (hv : validate s.cfg.rejectUnknownType (s.completed x) = some e) :
    complete (s.store x) = ((s.store x).resetFsm.countInvalid, .error e) := by
  rw [complete, State.store_cfg, State.store_cursor, ← State.completed, hv]

section
variable {s : State} (h : Framed s) (x : Byte)
include h

/-- Past the header the latched fields are those of the bytes stored (R34 item 6). -/
theorem Framed.header_fields (hcur : 3 ≤ s.cursor) : viewIdLength (s.completed x) = s.idLength ∧
    viewDataLength (s.completed x) = s.dataLength ∧ viewOffset (s.completed x) = s.offsetFlag := by
  obtain ⟨-, hdl, hidl⟩ := h.header
  obtain ⟨hdl, hoff⟩ := hdl (by omega)
  have h0 := s.byteAt_completed x (a := 0) (by omega)
  have h1 := s.byteAt_completed x (a := 1) (by omega)
  have h2 := s.byteAt_completed x (a := 2) (by omega)
  refine ⟨?_, ?_, ?_⟩
  · rw [viewIdLength, h2, hidl hcur]
  · rw [viewDataLength, h0, h1, hdl]
  · rw [viewOffset, h1, hoff]

variable (hst : s.fsm = .crcB1)
include hst

theorem Framed.cursor_of_crcB1 : s.cursor = 4 + s.idBytes + s.dataLength.toNat := by
  have hplace := h.place
  rw [State.inPlace, hst] at hplace
  obtain ⟨hcur, hid, hpc⟩ := hplace
  omega

theorem Framed.viewWireSize_completed :
    viewWireSize (s.completed x) = 5 + s.idLength.toNat + s.dataLength.toNat := by
  have hcur := h.cursor_of_crcB1 hst
  obtain ⟨hidl, hdl, -⟩ := h.header_fields x (by omega)
  rw [viewWireSize, checksumIndex, hidl, hdl]
  omega

/-- The span is complete: VALIDATE looks at the id length, the type and the checksum only (R173). -/
theorem Framed.validate_completed {r : Bool} {e : Err} (he : validate r (s.completed x) = some e) :
    (e = .invalidMessageIdLength ∧ s.idLength = 0) ∨ (e = .invalidChecksum ∧ s.idLength ≠ 0) ∨
      (∃ c, e = .unknownMessageType c ∧ 13 ≤ c.toNat ∧ r = true ∧ s.idLength ≠ 0) := by
  have hcur := h.cursor_of_crcB1 hst
  have hsize := h.viewWireSize_completed x hst
  obtain ⟨hidl, -, -⟩ := h.header_fields x (by omega)
  by_cases h0 : s.idLength = 0
  · rw [validate_of_idLength_zero (by rw [State.length_completed]; omega) (by rw [hidl, h0]; rfl)] at he
    exact .inl ⟨(Option.some.inj he).symm, h0⟩
  have h0' : (viewIdLength (s.completed x)).toNat ≠ 0 := by
    rw [hidl]
    exact fun h0' => h0 (BitVec.eq_of_toNat_eq h0')
  have hle : viewWireSize (s.completed x) ≤ (s.completed x).length := by
    rw [hsize, State.length_completed, hcur, State.idBytes]
    omega
  by_cases ht : r = true ∧ 12 < (viewTypeCode (s.completed x)).toNat
  · rw [validate_of_type_rejected h0' hle ht] at he
    exact .inr (.inr ⟨_, (Option.some.inj he).symm, ht.2, ht.1, h0⟩)
  by_cases hc : viewChecksum (s.completed x) = computedChecksum (s.completed x)
  · rw [validate_of_checksum_eq h0' hle ht hc] at he
    cases he
  · rw [validate_of_checksum_ne h0' hle ht hc] at he
    exact .inr (.inl ⟨(Option.some.inj he).symm, h0⟩)

end

/-- Settles O29: where the outcome comes from, then the arithmetic of R34 item 4 in CrcB1. -/
theorem decoderOutcomes : Obligations.DecoderOutcomes := by
  intro b s t hinv hexec
  rw [exec_decode] at hexec
  obtain rfl := Host.Outcome.next.inj hexec
  obtain ⟨hframed, -⟩ := (inv_iff s).mp hinv
  rcases decodeByte_outcome hframed b with hnone | ⟨hfull, herr⟩ | ⟨v, f, x, hu, hst, hlt, heq⟩
  · refine ⟨fun n bytes h => ?_, fun e h => ?_⟩ <;> (rw [finishOutcome_result, hnone] at h; cases h)
  · refine ⟨fun n bytes h => ?_, fun e h => ?_⟩ <;> (rw [finishOutcome_result, herr] at h; cases h)
    exact .inr (.inr (.inr ⟨rfl, Nat.le_antisymm hframed.cursor_le hfull⟩))
  · have hcur : s.cursor = 4 + max s.idLength.toNat 1 + s.dataLength.toNat := hu.cursor_of_crcB1 hst
    have hidl := s.idLength.isLt
    have hdl := s.dataLength.isLt
    cases hv : validate s.cfg.rejectUnknownType (State.completed ((s.setFrameOffset v).setPrevCodeFf f) x) with
    | none =>
      rw [complete_store_of_none (s := (s.setFrameOffset v).setPrevCodeFf f) hv] at heq
      refine ⟨fun n bytes h => ?_, fun e h => ?_⟩ <;> (rw [finishOutcome_result, heq] at h; cases h)
      have hlen : s.cursor + 1 = 3 + max s.idLength.toNat 1 + s.dataLength.toNat + 2 := by omega
      have hread : (finishOutcome (decodeByte b s)).readable = s.cursor + 1 := by rw [heq]; rfl
      refine ⟨(State.length_completed _ x).symm, hlen, ?_, ?_, hread, fun a ha => ?_⟩
      · show 6 ≤ s.cursor + 1
        omega
      · show s.cursor + 1 ≤ 1043
        omega
      · rw [State.rdData_of_lt (hread.symm ▸ ha), heq]
        exact (byteAt_span _ ha).symm
    | some e =>
      rw [complete_store_of_some (s := (s.setFrameOffset v).setPrevCodeFf f) hv] at heq
      refine ⟨fun n bytes h => ?_, fun e' h => ?_⟩ <;> (rw [finishOutcome_result, heq] at h; cases h)
      rcases hu.validate_completed x hst hv with hid | hsum | ⟨c, rfl, hc, hr, h0⟩
      · exact .inl hid
      · exact .inr (.inl hsum)
      · exact .inr (.inr (.inl ⟨c, rfl, hc, hr, h0⟩))

end Sys2Proof.Machine
end

section
/-! PROOFS. Back-to-back frames (spec/43_decoder_fsm.md R206 to R208): the decoder over the frame of a packet that
VALIDATE accepts. -/

namespace Sys2Proof.Machine

/-! ### The packets that come through (the premises of R207) -/

/-- A packet that a decoder with configuration `c` accepts and has room for: exactly as long as its header says, and
without the offset flag, under which two bytes would be dropped (R190, R191). -/
structure Deliverable (c : Config) (p : Bytes) : Prop where
  valid : validate c.rejectUnknownType p = none
  length_eq : p.length = viewWireSize p
  noOffset : viewOffset p = false
  fits : p.length ≤ c.cap

theorem Deliverable.length_cases {c : Config} {p : Bytes} (h : Deliverable c p) : (viewIdLength p).toNat ≠ 0 ∧
    p.length = 5 + (viewIdLength p).toNat + (viewDataLength p).toNat := by
  obtain ⟨h0, -⟩ := validate_eq_none h.valid
  have hlen := h.length_eq
  rw [viewWireSize, checksumIndex] at hlen
  exact ⟨h0, by omega⟩

/-! ### A packet received in part -/

/-- The decoder is inside a frame and has stored the first `k` bytes of the packet. -/
structure Receiving (p : Bytes) (k : Nat) (s : State) : Prop where
  framed : Framed s
  busy : s.fsm ≠ .frameOffset
  cursor : s.cursor = k
  bytes : ∀ a, a < k → s.bufByte a = byteAt p a

theorem Receiving.deframe {p : Bytes} {k : Nat} {s : State} (h : Receiving p k s) {v : BitVec 8} {f : Bool}
    (hv : 1 ≤ v.toNat) (hf : s.cfg.ffBlockException = false → f = false) :
    Receiving p k ((s.setFrameOffset v).setPrevCodeFf f) :=
  ⟨h.framed.deframe h.busy hv hf, h.busy, h.cursor, h.bytes⟩

section
variable {p : Bytes} {k : Nat} {s : State} (h : Receiving p k s)
include h

/-- Once the header is stored the latched fields are the packet's (R34 item 6). -/
theorem Receiving.header_fields (hk : 3 ≤ k) :
    s.idLength = viewIdLength p ∧ s.dataLength = viewDataLength p ∧ s.offsetFlag = viewOffset p := by
  obtain ⟨-, hdl, hidl⟩ := h.framed.header
  have hcur := h.cursor
  obtain ⟨hdl, hoff⟩ := hdl (by omega)
  rw [h.bytes 0 (by omega), h.bytes 1 (by omega)] at hdl
  rw [h.bytes 1 (by omega)] at hoff
  exact ⟨by rw [hidl (by omega), h.bytes 2 (by omega)]; rfl, hdl, hoff⟩

variable (hp : Deliverable s.cfg p)
include hp

/-- Where the decoder is: in a storing state, and in CrcB1 exactly before the last byte (R34 item 4). -/
theorem Receiving.place : storingState s.fsm = true ∧ (s.fsm = .crcB1 ↔ k + 1 = p.length) := by
  obtain ⟨h0, hlen⟩ := hp.length_cases
  have hplace := h.framed.place
  have hcur := h.cursor
  have hfields := h.header_fields
  unfold State.inPlace at hplace
  unfold State.idBytes at hplace
  cases hst : s.fsm <;> rw [hst] at hplace
  case frameOffset => exact absurd hst h.busy
  case headerB0 | headerB1 | headerB2 =>
    obtain ⟨hc, -⟩ := hplace
    exact ⟨rfl, iff_of_false (by decide) (by omega)⟩
  case msgId =>
    obtain ⟨hc, hid, -⟩ := hplace
    obtain ⟨hidl, -, -⟩ := hfields (by omega)
    rw [hidl] at hid
    exact ⟨rfl, iff_of_false (by decide) (by omega)⟩
  case offsetB0 | offsetB1 =>
    obtain ⟨hc, -, hoff, -⟩ := hplace
    obtain ⟨-, -, hoff'⟩ := hfields (by omega)
    cases hoff.symm.trans (hoff'.trans hp.noOffset)
  case payload | crcB0 =>
    obtain ⟨hc, hid, hpc⟩ := hplace
    obtain ⟨hidl, hdl, -⟩ := hfields (by omega)
    rw [hidl] at hid
    rw [hdl] at hpc
    exact ⟨rfl, iff_of_false (by decide) (by omega)⟩
  case crcB1 =>
    obtain ⟨hc, hid, hpc⟩ := hplace
    obtain ⟨hidl, hdl, -⟩ := hfields (by omega)
    rw [hidl] at hid
    rw [hdl] at hpc
    exact ⟨rfl, iff_of_true rfl (by omega)⟩

end

/-! ### One reconstructed byte -/

theorem afterId_ne_frameOffset (s : State) : afterId s ≠ .frameOffset := by
  unfold afterId payloadOrCrc
  split
  · decide
  split <;> decide

/-- A storing rule with room, before the last byte: the byte is stored, the outcome is NONE and the counters stay. -/
theorem inState_stores {st : FsmState} (x : Byte) {s : State} (hst : storingState st = true) (hne : st ≠ .crcB1)
    (hs : s.fsm ≠ .frameOffset) (hlt : s.cursor < s.cfg.cap) :
    StoresByte x s (inState st x s).1 ∧ (inState st x s).1.fsm ≠ .frameOffset ∧ (inState st x s).2 = .none ∧
      (inState st x s).1.validPktCount = s.validPktCount ∧ (inState st x s).1.invalidPktCount = s.invalidPktCount := by
  cases st
  case frameOffset | offsetB0 | offsetB1 => cases hst
  case crcB1 => exact absurd rfl hne
  case headerB0 =>
    rw [inState, inHeaderB0_of_lt hlt]
    exact ⟨⟨rfl, rfl, rfl, rfl, rfl, rfl⟩, by simp, rfl, rfl, rfl⟩
  case headerB1 =>
    rw [inState, inHeaderB1_of_lt hlt]
    exact ⟨⟨rfl, rfl, rfl, rfl, rfl, rfl⟩, by simp, rfl, rfl, rfl⟩
  case headerB2 =>
    rw [inState, inHeaderB2_of_lt hlt]
    exact ⟨⟨rfl, rfl, rfl, rfl, rfl, rfl⟩, by simp, rfl, rfl, rfl⟩
  case crcB0 =>
    rw [inState, inCrcB0_of_lt hlt]
    exact ⟨⟨rfl, rfl, rfl, rfl, rfl, rfl⟩, by simp, rfl, rfl, rfl⟩
  case msgId =>
    rw [inState, inMsgId_of_lt hlt]
    refine ⟨⟨rfl, rfl, rfl, rfl, rfl, rfl⟩, ?_, rfl, rfl, rfl⟩
    rw [State.goto_fsm]
    split
    · exact hs
    · exact afterId_ne_frameOffset s
  case payload =>
    rw [inState, inPayload_of_lt hlt]
    refine ⟨⟨rfl, rfl, rfl, rfl, rfl, rfl⟩, ?_, rfl, rfl, rfl⟩
    rw [State.goto_fsm]
    split
    · exact hs
    · decide

/-- What a DECODE inside a frame leaves to the next: the de-framer's registers, the configuration and the counters. -/
structure KeepsBeside (s t : State) : Prop where
  cfg : t.cfg = s.cfg
  frameOffset : t.frameOffset = s.frameOffset
  prevCodeFf : t.prevCodeFf = s.prevCodeFf
  valid : t.validPktCount = s.validPktCount
  invalid : t.invalidPktCount = s.invalidPktCount

section
variable {p : Bytes} {k : Nat} {s : State} (h : Receiving p k s) (hp : Deliverable s.cfg p)
include h hp

/-- A byte before the last is stored. -/
theorem Receiving.next (hk : k + 1 < p.length) : (inState s.fsm (byteAt p k) s).2 = .none ∧
    Receiving p (k + 1) (inState s.fsm (byteAt p k) s).1 ∧ KeepsBeside s (inState s.fsm (byteAt p k) s).1 := by
  obtain ⟨hst, hlast⟩ := h.place hp
  obtain rfl := h.cursor
  have hfits := hp.fits
  have hne : s.fsm ≠ .crcB1 := fun hc => absurd (hlast.mp hc) (Nat.ne_of_lt hk)
  obtain ⟨hs, hbusy, hnone, hv, hi⟩ := inState_stores (byteAt p s.cursor) hst hne h.busy (by omega)
  refine ⟨hnone, ⟨h.framed.inState h.busy _, hbusy, hs.cursor, fun a ha => ?_⟩,
    ⟨hs.cfg, hs.frameOffset, hs.prevCodeFf, hv, hi⟩⟩
  rcases Nat.lt_succ_iff_lt_or_eq.mp ha with hlt | rfl
  · rw [hs.bufByte_of_lt hlt, h.bytes a hlt]
  · exact hs.bufByte_cursor

/-- The last byte completes the packet (R194, R195). -/
theorem Receiving.last (hk : k + 1 = p.length) : inState s.fsm (byteAt p k) s =
    ((s.store (byteAt p k)).resetFsm.countValid, .packet p.length p) := by
  obtain ⟨-, hlast⟩ := h.place hp
  obtain rfl := h.cursor
  have hfits := hp.fits
  have hspan := State.span_store_eq_of_byteAt (s := s) (x := byteAt p s.cursor) hk.symm
    (fun a ha => (h.bytes a ha).symm) rfl
  rw [hlast.mpr hk, ← hk]
  exact inCrcB1_of_validate_none hspan (by omega) hp.valid

end

/-! ### The bytes of a frame body (R111, R112) -/

/-- What the de-framer hands on depends on its own registers and the configuration only. -/
theorem unstuff_congr {s t : State} (hc : t.cfg = s.cfg) (hfo : t.frameOffset = s.frameOffset)
    (hff : t.prevCodeFf = s.prevCodeFf) (b : Byte) : (unstuff b t).2 = (unstuff b s).2 ∧
      (unstuff b t).1.cfg = (unstuff b s).1.cfg ∧ (unstuff b t).1.frameOffset = (unstuff b s).1.frameOffset ∧
      (unstuff b t).1.prevCodeFf = (unstuff b s).1.prevCodeFf := by
  rcases Nat.lt_or_ge 1 s.frameOffset.toNat with hlt | hle
  · rw [unstuff_of_counting b hlt, unstuff_of_counting b (hfo ▸ hlt)]
    exact ⟨rfl, hc, congrArg (· - 1) hfo, hff⟩
  · rw [unstuff_of_expired b hle, unstuff_of_expired b (hfo ▸ hle), loadCode, loadCode, codeByteResult, codeByteResult,
      hc, hff]
    cases s.cfg.ffBlockException
    · exact ⟨rfl, hc, rfl, hff⟩
    · exact ⟨rfl, hc, rfl, rfl⟩

theorem onlineBytes_congr {s t : State} (hc : t.cfg = s.cfg) (hfo : t.frameOffset = s.frameOffset)
    (hff : t.prevCodeFf = s.prevCodeFf) (bs : Bytes) : onlineBytes t bs = onlineBytes s bs := by
  induction bs generalizing s t with
  | nil => rfl
  | cons b bs ih =>
    obtain ⟨hr, hc', hfo', hff'⟩ := unstuff_congr hc hfo hff b
    rw [onlineBytes, onlineBytes, hr, ih hc' hfo' hff']

/-- The machine waits for a frame, with every working register 0. -/
def State.idle (s : State) : Prop := s.fsm = .frameOffset ∧ s.workingZero

/-- One packet has come through and nothing else: its outcome, one step of the valid counter, and an idle machine. -/
structure Delivered (p : Bytes) (s : State) (r : State × List DecodeOutcome) : Prop where
  outcomes : r.2 = [.packet p.length p]
  idle : r.1.idle
  cfg : r.1.cfg = s.cfg
  valid : r.1.validPktCount = satInc s.cfg s.validPktCount
  invalid : r.1.invalidPktCount = s.invalidPktCount

/-- A byte with outcome NONE that leaves the configuration and the counters, before the bytes that bring the packet. -/
theorem Delivered.cons {p : Bytes} {b : Byte} {w : Bytes} {s u : State} (hdec : decodeByte b s = (u, .none))
    (hc : u.cfg = s.cfg) (hv : u.validPktCount = s.validPktCount) (hi : u.invalidPktCount = s.invalidPktCount)
    (h : Delivered p (finishOutcome (u, .none)) (decodeBytes w (finishOutcome (u, .none)))) :
    Delivered p s (decodeBytes (b :: w) s) := by
  have heq : decodeBytes (b :: w) s = decodeBytes w (finishOutcome (u, .none)) := by
    rw [decodeBytes_cons, hdec, if_pos rfl]
  rw [heq]
  have hvalid : satInc u.cfg u.validPktCount = satInc s.cfg s.validPktCount := by rw [hc, hv]
  exact ⟨h.outcomes, h.idle, h.cfg.trans hc, h.valid.trans hvalid, h.invalid.trans hi⟩

theorem Receiving.finishOutcome {p : Bytes} {k : Nat} {u : State} (h : Receiving p k u) (o : DecodeOutcome) :
    Receiving p k (finishOutcome (u, o)) := by
  obtain ⟨⟨hplace, hcounting, hcur, hheader, hwritten, hff⟩, hbusy, hcursor, hbytes⟩ := h
  exact ⟨⟨hplace, hcounting, hcur, hheader, hwritten, hff⟩, hbusy, hcursor, hbytes⟩

/-! ### The rest of a frame body -/

/-- The last of the results hands a byte on. -/
def EndsHandingOn (rs : List (Option Byte)) : Prop := ∃ y, rs.getLast? = some (some y)

theorem endsHandingOn_cons (r : Option Byte) {rs : List (Option Byte)} (hne : rs ≠ []) :
    EndsHandingOn (r :: rs) ↔ EndsHandingOn rs := by
  obtain ⟨q, qs, rfl⟩ := List.exists_cons_of_ne_nil hne
  rw [EndsHandingOn, EndsHandingOn, List.getLast?_cons_cons]

theorem EndsHandingOn.filterMap_ne_nil {rs : List (Option Byte)} (h : EndsHandingOn rs) : rs.filterMap id ≠ [] := by
  obtain ⟨y, hy⟩ := h
  exact List.ne_nil_of_mem (List.mem_filterMap.mpr ⟨some y, List.mem_of_getLast? hy, rfl⟩)

/-- From `s` on, the wire bytes `w` hand on exactly `rest`, its last byte with their last. -/
structure Brings (s : State) (w rest : Bytes) : Prop where
  nonzero : (0#8 : Byte) ∉ w
  handedOn : (onlineBytes s w).filterMap id = rest
  last : EndsHandingOn (onlineBytes s w)

theorem Brings.rest_ne_nil {s : State} {w rest : Bytes} (h : Brings s w rest) : rest ≠ [] :=
  h.handedOn ▸ h.last.filterMap_ne_nil

theorem Brings.congr {s t : State} {w rest : Bytes} (h : Brings s w rest) (hc : t.cfg = s.cfg)
    (hfo : t.frameOffset = s.frameOffset) (hff : t.prevCodeFf = s.prevCodeFf) : Brings t w rest := by
  have heq := onlineBytes_congr hc hfo hff w
  exact ⟨h.nonzero, heq ▸ h.handedOn, heq ▸ h.last⟩

section
variable {s u : State} {b : Byte} {w rest : Bytes} (h : Brings s (b :: w) rest)
include h

theorem Brings.head_ne : b ≠ delimiter := fun hb => h.nonzero (hb ▸ List.mem_cons_self)

theorem Brings.tail (hu : (unstuff b s).1 = u) (hw : (onlineBytes u w).filterMap id ≠ []) :
    Brings u w ((onlineBytes u w).filterMap id) := by
  subst hu
  refine ⟨fun h0 => h.nonzero (List.mem_cons_of_mem _ h0), rfl, (endsHandingOn_cons (unstuff b s).2 ?_).mp h.last⟩
  intro hnil
  rw [hnil] at hw
  exact hw rfl

theorem Brings.of_none (hu : unstuff b s = (u, none)) : Brings u w rest := by
  have hon := h.handedOn
  rw [onlineBytes, hu, List.filterMap_cons_none rfl] at hon
  have ht := h.tail (congrArg Prod.fst hu) (hon ▸ h.rest_ne_nil)
  rwa [hon] at ht

/-- A byte that is handed on is the next of the packet, and nothing is left to come after the last. -/
theorem Brings.of_some {x : Byte} (hu : unstuff b s = (u, some x)) :
    ∃ rest', rest = x :: rest' ∧ (rest' ≠ [] → Brings u w rest') ∧ (rest' = [] → w = []) := by
  have hon := h.handedOn
  rw [onlineBytes, hu, List.filterMap_cons_some (f := id) (b := x) rfl] at hon
  refine ⟨_, hon.symm, h.tail (congrArg Prod.fst hu), fun hnil => ?_⟩
  cases w with
  | nil => rfl
  | cons c w =>
    have hends := h.last
    rw [onlineBytes, hu, endsHandingOn_cons _ (rs := onlineBytes u (c :: w)) (List.cons_ne_nil _ _)] at hends
    exact absurd hnil hends.filterMap_ne_nil

end

theorem drop_eq_byteAt_cons {p : Bytes} {k : Nat} (hk : k < p.length) : p.drop k = byteAt p k :: p.drop (k + 1) := by
  rw [List.drop_eq_getElem_cons hk, byteAt, List.getD_eq_getElem _ _ hk]

/-- Bytes that bring what is left of the packet complete it. -/
theorem Receiving.delivered {p : Bytes} {k : Nat} {s : State} (h : Receiving p k s) (hp : Deliverable s.cfg p)
    (hk : k < p.length) {w : Bytes} (hw : Brings s w (p.drop k)) : Delivered p s (decodeBytes w s) := by
  induction w generalizing s k with
  | nil => exact absurd rfl hw.last.filterMap_ne_nil
  | cons b w ih =>
    have hdec := decodeByte_of_ne hw.head_ne s
    rcases hu : unstuff b s with ⟨u, _ | x⟩ <;>
      obtain ⟨v, f, rfl, hv, hf⟩ := unstuff_writes hw.head_ne h.framed.noFfFlag hu
    · rw [afterUnstuff_none hu] at hdec
      exact .cons hdec rfl rfl rfl
        (ih ((h.deframe hv hf).finishOutcome _) hp hk ((hw.of_none hu).congr rfl rfl rfl))
    · obtain ⟨rest, hcons, hmore, hend⟩ := hw.of_some hu
      rw [drop_eq_byteAt_cons hk] at hcons
      obtain ⟨rfl, rfl⟩ := List.cons.inj hcons
      rw [afterUnstuff_some hu] at hdec
      rcases Nat.lt_or_ge (k + 1) p.length with hlt | hge
      · obtain ⟨hnone, hnext, hkeep⟩ := (h.deframe hv hf).next hp hlt
        refine .cons (hdec.trans (Prod.ext rfl hnone)) hkeep.cfg hkeep.valid hkeep.invalid
          (ih (hnext.finishOutcome _) (hkeep.cfg ▸ hp) hlt ?_)
        have hrest : p.drop (k + 1) ≠ [] := fun hnil => Nat.not_le.mpr hlt (List.drop_eq_nil_iff.mp hnil)
        exact (hmore hrest).congr hkeep.cfg hkeep.frameOffset hkeep.prevCodeFf
      · obtain rfl := hend (List.drop_eq_nil_iff.mpr hge)
        have hlast := (h.deframe hv hf).last hp (by omega)
        rw [decodeBytes_cons, hdec.trans hlast, if_neg (by simp)]
        exact ⟨rfl, ⟨rfl, rfl, rfl, rfl, rfl, rfl, rfl, rfl, rfl⟩, rfl, rfl, rfl⟩

/-! ### A whole frame (R72, R115) -/

theorem EndsHandingOn.append_left {rs : List (Option Byte)} (h : EndsHandingOn rs) (qs : List (Option Byte)) :
    EndsHandingOn (qs ++ rs) := by
  obtain ⟨y, hy⟩ := h
  exact ⟨y, by rw [List.getLast?_append, hy, Option.some_or]⟩

theorem endsHandingOn_map_some {data : Bytes} (h : data ≠ []) : EndsHandingOn (data.map some) :=
  ⟨data.getLast h, by rw [List.getLast?_map, List.getLast?_eq_some_getLast h, Option.map_some]⟩

/-- A block does not end the results when a further block does. -/
theorem endsHandingOn_block {b : Block} (hb : b.proper) {s : State} (h : s.frameOffset.toNat ≤ 1) {rest : Bytes}
    (hrest : EndsHandingOn (onlineBytes ((loadCode b.code s).setFrameOffset 1) rest)) :
    EndsHandingOn (onlineBytes s (b.code :: (b.data ++ rest))) := by
  rw [onlineBytes_block hb h]
  exact (hrest.append_left (b.data.map some)).append_left [codeByteResult s]

/-- The last byte of the blocks that R102 closes hands a byte on: a block without data is closed by a zero only. -/
theorem endsHandingOn_encodedBlocks {block p : Bytes} (hopen : OpenBlock block p) {s : State}
    (h : s.frameOffset.toNat ≤ 1) (hne : block ++ p ≠ [] ∨ codeByteResult s ≠ none) :
    EndsHandingOn (onlineBytes s (bodyOf (encodedBlocks block p))) := by
  induction p generalizing block s with
  | nil =>
    have hproper := blockOf_proper hopen.nonzero hopen.length_le
    rw [encodedBlocks, bodyOf_cons, onlineBytes_block hproper h]
    by_cases hb : block = []
    · subst hb
      obtain ⟨y, hy⟩ := Option.ne_none_iff_exists.mp (hne.resolve_left (by simp))
      exact ⟨y, by rw [← hy]; rfl⟩
    · have hdata : EndsHandingOn ((blockOf block).data.map some) := endsHandingOn_map_some hb
      rw [bodyOf_nil, onlineBytes, List.append_nil]
      exact hdata.append_left [codeByteResult s]
  | cons x rest ih =>
    have hroom := hopen.room (List.cons_ne_nil _ _)
    simp only [encodedBlocks]
    split
    · have hcode : (blockOf block).code ≠ 0xFF#8 := fun hff =>
        absurd ((blockOf_code_eq_ff_iff hopen.length_le).mp hff) (by omega)
      refine endsHandingOn_block (blockOf_proper hopen.nonzero hopen.length_le) h
        (ih (openBlock_nil _) Nat.le.refl (.inr fun hnone => ?_))
      have hlist := toList_codeByteResult_after (s := s) (.inr hcode)
      rw [hnone, impliedZero_blockOf hroom] at hlist
      cases hlist
    rename_i hx
    split
    · rename_i hfull
      exact endsHandingOn_block (hopen.full_proper hx) h (ih (openBlock_nil _) Nat.le.refl (.inl hfull.2))
    · exact ih (hopen.concat hx ‹_›) h (.inl (by simp))

theorem noFullInnerBlock_of_forall {bs : List Block} (h : ∀ b ∈ bs, b.code ≠ 0xFF#8) : noFullInnerBlock bs = true := by
  induction bs with
  | nil => rfl
  | cons b bs ih =>
    obtain ⟨hb, hbs⟩ := List.forall_mem_cons.mp h
    by_cases hne : bs = []
    · rw [hne]; rfl
    · exact (noFullInnerBlock_cons b hne).mpr ⟨hb, ih hbs⟩

/-- Behind its first code byte the body of a frame brings the packet, when full blocks are told apart or do not
occur. -/
theorem brings_encodeBody {p : Bytes} (hne : p ≠ []) {s : State} (h : s.frameOffset.toNat ≤ 1)
    (hrun : s.cfg.ffBlockException = true ∨ NoLongRun p) :
    ∃ c w, encodeBody p = c :: w ∧ c ≠ delimiter ∧ Brings (loadCode c s) w p := by
  have hff : s.cfg.ffBlockException = true ∨ noFullInnerBlock (encodedBlocks [] p) = true :=
    hrun.imp_right fun hrun => noFullInnerBlock_of_forall (encodedBlocks_of_noLongRun (openBlock_nil p) hrun).2
  obtain ⟨tail, htail, hjoin⟩ := filterMap_onlineBytes_bodyOf (encodedBlocks_ne_nil [] p)
    (proper_of_mem_encodedBlocks (openBlock_nil p)) h hff
  have hends := endsHandingOn_encodedBlocks (openBlock_nil p) h (.inl hne)
  have h0 := zero_notMem_encodeBody p
  rw [joinBlocks_encodedBlocks (openBlock_nil p), List.nil_append] at hjoin
  rw [← encodeBody_eq_bodyOf] at htail hends
  rw [htail, endsHandingOn_cons _ (by rintro rfl; exact hne hjoin.symm)] at hends
  obtain ⟨c, w, hbody⟩ : ∃ c w, encodeBody p = c :: w := List.exists_cons_of_ne_nil fun hnil => by
    rw [hnil] at htail; cases htail
  rw [hbody] at htail h0
  rw [onlineBytes, unstuff_of_expired c h] at htail
  obtain rfl := (List.cons.inj htail).2
  exact ⟨c, w, hbody, fun hc => h0 (hc ▸ List.mem_cons_self),
    fun hmem => h0 (List.mem_cons_of_mem _ hmem), hjoin, hends⟩

/-- The first code byte of a frame starts the header (R183). -/
theorem decodeByte_of_idle {c : Byte} (hc : c ≠ delimiter) {s : State} (h : s.idle) :
    decodeByte c s = ((loadCode c s).goto .headerB0, .none) := by
  obtain ⟨hfsm, hfo, -, -, -, -, -, -, hff⟩ := h
  have hu : unstuff c s = (loadCode c s, some 0#8) := by
    rw [unstuff_of_expired c (by rw [hfo]; decide), codeByteResult, hff, Bool.and_false, if_neg (by decide)]
  rw [decodeByte_of_ne hc, afterUnstuff_some hu, hfsm]
  rfl

theorem Delivered.concat_delimiter {p e : Bytes} {s : State} (h : Delivered p s (decodeBytes e s)) :
    Delivered p s (decodeBytes (e ++ [delimiter]) s) := by
  have hdelim (t : State) : decodeBytes [delimiter] t = (finishOutcome (t.resetFsm, .none), []) := by
    rw [decodeBytes_cons, decodeByte_delimiter]
    rfl
  rw [decodeBytes_append, hdelim]
  refine ⟨by rw [List.append_nil]; exact h.outcomes, ?_, h.cfg, h.valid, h.invalid⟩
  exact ⟨rfl, rfl, rfl, rfl, rfl, rfl, rfl, rfl, rfl⟩

/-- The frame of a packet, from a machine that waits for one. -/
theorem Deliverable.delivered {p : Bytes} {s : State} (hp : Deliverable s.cfg p) (h : s.idle)
    (hrun : s.cfg.ffBlockException = true ∨ NoLongRun p) : Delivered p s (decodeBytes (encodedFrame p) s) := by
  obtain ⟨-, hlen⟩ := hp.length_cases
  have hpos : 0 < p.length := by omega
  obtain ⟨hfsm, hzero⟩ := id h
  obtain ⟨hfo, hcur, -⟩ := id hzero
  obtain ⟨c, w, hbody, hc, hw⟩ := brings_encodeBody (List.length_pos_iff.mp hpos) (s := s) (by rw [hfo]; decide) hrun
  have hdec := decodeByte_of_idle hc h
  have hframed := (Framed.of_idle hfsm hzero).decodeByte c
  rw [hdec] at hframed
  obtain ⟨hkcfg, hkcur, hkv, hki⟩ : (loadCode c s).cfg = s.cfg ∧ (loadCode c s).cursor = s.cursor ∧
      (loadCode c s).validPktCount = s.validPktCount ∧ (loadCode c s).invalidPktCount = s.invalidPktCount := by
    unfold loadCode
    split <;> exact ⟨rfl, rfl, rfl, rfl⟩
  have hrec : Receiving p 0 ((loadCode c s).goto .headerB0) :=
    ⟨hframed, FsmState.noConfusion, hkcur.trans hcur, fun a ha => absurd ha (Nat.not_lt_zero a)⟩
  refine Delivered.concat_delimiter ?_
  rw [hbody]
  exact .cons hdec hkcfg hkv hki ((hrec.finishOutcome _).delivered (hkcfg ▸ hp) hpos (hw.congr rfl rfl rfl))

/-! ### Frame after frame (R206, R207) -/

/-- The frames of one packet, from a machine that waits for one. -/
theorem decodeBytes_frames {p : Bytes} (n : Nat) {s : State} (hp : Deliverable s.cfg p) (h : s.idle)
    (hrun : s.cfg.ffBlockException = true ∨ NoLongRun p) (hcount : s.validPktCount + n ≤ counterMax s.cfg) :
    ∃ t, decodeBytes (List.replicate n (encodedFrame p)).flatten s = (t, List.replicate n (.packet p.length p)) ∧
      t.validPktCount = s.validPktCount + n ∧ t.invalidPktCount = s.invalidPktCount ∧ t.idle ∧ t.cfg = s.cfg := by
  induction n generalizing s with
  | zero => exact ⟨s, rfl, rfl, rfl, h, rfl⟩
  | succ n ih =>
    obtain ⟨hout, hidle, hcfg, hvalid, hinvalid⟩ := hp.delivered h hrun
    rw [satInc, if_pos (by omega)] at hvalid
    obtain ⟨t, ht, htv, hti, htidle, htcfg⟩ := ih (hcfg ▸ hp) hidle (hcfg ▸ hrun) (by rw [hvalid, hcfg]; omega)
    refine ⟨t, ?_, by rw [htv, hvalid]; omega, hti.trans hinvalid, htidle, htcfg.trans hcfg⟩
    rw [List.replicate_succ, List.flatten_cons, decodeBytes_append, ht, hout]
    rfl

/-- Settles O53: the delimiter puts the machine at the start of a frame, and each frame leaves it there. -/
theorem backToBackFrames : Obligations.BackToBackFrames := by
  intro p n s hvalid hlen hoff hfits hrun hcount
  have hp : Deliverable s.cfg p := ⟨hvalid, hlen, hoff, hfits⟩
  have hidle : (finishOutcome (s.resetFsm, .none)).idle := ⟨rfl, rfl, rfl, rfl, rfl, rfl, rfl, rfl, rfl⟩
  obtain ⟨t, ht, htv, hti, ⟨htfsm, htzero⟩, htcfg⟩ :=
    decodeBytes_frames (s := finishOutcome (s.resetFsm, .none)) n hp hidle hrun hcount
  have hstream : decodeBytes (delimiter :: (List.replicate n (encodedFrame p)).flatten) s =
      (t, List.replicate n (.packet p.length p)) := by
    rw [decodeBytes_cons, decodeByte_delimiter, if_pos rfl, ht]
  refine ⟨t.finish (.outcomes (List.replicate n (.packet p.length p))), ?_, rfl, htv, hti, htfsm, htzero, htcfg⟩
  show Host.Outcome.next (streamOf _ s) = _
  rw [streamOf, hstream]

end Sys2Proof.Machine
end
